-- ==== Sys2Proof/Word.lean ====
section
/-! DEFINITION. The words the part handles: bytes of the cable and of the accessory port, lane words, raw
samples and the 8-byte fields of management tables (spec 12, sections 13.1 to 13.4). -/

namespace Sys2Proof

/-- A byte of a superframe, of a message body or of the accessory port (12, introduction). -/
abbrev Byte := BitVec 8

/-- A 16-bit lane word (12, section 13.3). -/
abbrev LaneBits := BitVec 16

/-- A raw sample of a board: 14 bits, unsigned (00, section 1.6). -/
abbrev Sample := BitVec 14

/-- One table index as it is carried on the cable: 8 bytes, the presence byte first (12, R180). -/
abbrev Field := BitVec 64

/-- The 3360 bits of a cell payload, the first bit sent being the most significant one (12, 13.2). -/
abbrev Payload := BitVec 3360

end Sys2Proof
end

