-- ==== Sys2Proof/Syntax.lean ====
section
/-! DEFINITION. The commands of the part: one constructor of Instr for each row of spec/opcode_table.json. -/

namespace Sys2Proof

/-- A Management Message as it stands in a downstream management cell (12, Table 13-5): the six header
bytes and the 240-byte body area, of which the first `length` bytes are the body. -/
structure Message where
  kind   : Byte
  tag    : Byte
  table  : Byte
  index  : Byte
  count  : Byte
  length : Byte
  body   : List Byte
deriving DecidableEq, Repr

/-- A COMMAND message less its kind and its command code (10, R167). Table number and Count are not used by
a COMMAND, and any value may stand in them. -/
structure CommandFields where
  tag    : Byte
  table  : Byte
  count  : Byte
  length : Byte
  body   : List Byte
deriving DecidableEq, Repr

/-- A WRITE message less its kind and its table number (10, R165). -/
structure WriteFields where
  tag    : Byte
  index  : Byte
  count  : Byte
  length : Byte
  body   : List Byte
deriving DecidableEq, Repr

/-- A RELAY message less its kind (07, section 8.2): the index field names the lane. -/
structure RelayFields where
  tag    : Byte
  table  : Byte
  lane   : Byte
  count  : Byte
  length : Byte
  body   : List Byte
deriving DecidableEq, Repr

/-- What a good downstream superframe gives to the blocks (01, R11): the Reference Marker and the echo go to
the RTU, the management cells to the LMA, the aux bytes to the ACU, and in TRAINING the RTU may issue a probe
(02, R23). -/
inductive Part where
  | marker | echo | probe | cells | aux
deriving DecidableEq, Repr

/-- One word of a lane's uplink (12, section 13.3): the lane coding marks it control or data, and may report
a coding error. -/
structure LaneWord where
  control     : Bool
  bits        : LaneBits
  codingError : Bool
deriving DecidableEq, Repr

/-- One item of a lane's uplink (12, R179): its control word, its data words, and whether a coding error fell
within it (03, R49). -/
structure LaneItem where
  control     : LaneBits
  data        : List LaneBits
  codingError : Bool
deriving DecidableEq, Repr

/-- The commands, in the order of spec/opcode_table.json. Times are in du (00, section 1.6). -/
inductive Instr where
  | powerOnReset
  | carrierGained
  | carrierLost
  | restartWaitExpiry
  | attemptTimerExpiry
  /-- The bytes the line interface delivered, the arrival time, and the order in which the parts of the
  superframe reach their blocks, which 01, R11 leaves open. -/
  | superframeArrival (bytes : List Byte) (time : Nat) (order : List Part)
  | retrain (f : CommandFields)
  | profileCapWrite (f : WriteFields)
  | headLineTick
  | slotSent
  | markerDeadlineExpiry
  | probeAbandon
  | timingSettingsWrite (f : WriteFields)
  | relock (f : CommandFields)
  | laneWordAligning (lane : Fin 4) (w : LaneWord)
  | alignmentTimerExpiry (lane : Fin 4)
  | laneItemArrival (lane : Fin 4) (item : LaneItem)
  | staleEpisode (lane : Fin 4)
  | laneReset (f : CommandFields)
  | commit (f : CommandFields)
  | cancelCommit (f : CommandFields)
  | measureStart (f : CommandFields)
  | measureAbort (f : CommandFields)
  | measureComplete
  | relay (f : RelayFields)
  | answerTimerExpiry (lane : Fin 4)
  | powerUp (f : CommandFields)
  | powerDown (f : CommandFields)
  | rampUpDelayExpiry
  | rampDownDelayExpiry
  | powerGoodRise (output : Fin 6)
  | powerGoodFall (output : Fin 6)
  | startTimerExpiry (output : Fin 6)
  | lossTimerExpiry (output : Fin 6)
  | supplyFaultStatusWrite (f : WriteFields)
  | portByteReceived (b : Byte) (framingError : Bool)
  | portByteSent
  | callSample (pressed : Bool)
  | clearCounters (f : CommandFields)
  | datapathReset (f : CommandFields)
  | alertFlagsWrite (f : WriteFields)
  | tableWrite (table : Byte) (f : WriteFields)
  | unknownKind (m : Message)
  | unknownCommandCode (code : Byte) (f : CommandFields)
deriving DecidableEq, Repr

end Sys2Proof
end

