-- ==== Sys2Proof/Decode.lean ====
section
/-! DEFINITION. Commands spelt by words. spec/opcode_table.json gives bits to none of its rows, so no word
spells a command. -/

namespace Sys2Proof

/-- The command a word of `nbits` bits spells by the table's bits: none, since the table gives no row bits. -/
def decodeTableWord (_nbits _w : Nat) : Option Instr := none

end Sys2Proof
end

