-- ==== Sys2Proof/Machine/State.lean ====
section
/-! DEFINITION. The state of the part, block by block as 00, Table 1-1 gives it to them, as plain data; the state
after power-on reset; the reasons a command can stop. -/

namespace Sys2Proof.Machine

/-- The part has no fault that stops it: every error the spec names is an effect on State. -/
inductive Fault where
deriving DecidableEq, Repr

/-- Reasons for which a command is refused by the model. -/
inductive Refusal where
  /-- Raised by exec for a row without a meaning yet. Safe: the part's behaviour is not claimed. No arm of exec
  answers it. -/
  | notModelled (mnemonic : String)
deriving DecidableEq, Repr

/-! ## Names shared by several blocks -/

/-- The two banks of the Tile Map and of the Slot Schedule (01, R15; 04, R62). -/
inductive Bank where | a | b
deriving DecidableEq, Repr

/-- The pack depths (01, R15, R18). -/
inductive Depth where | d10 | d12 | d14
deriving DecidableEq, Repr

/-- Link states (01, section 2.2). -/
inductive LinkState where | down | training | online
deriving DecidableEq, Repr

/-- Link profiles (01, R1). -/
inductive Profile where | p1 | p2 | p3 | p4
deriving DecidableEq, Repr

/-- Types of a slot entry, in the order of their codes (01, R15; 12, R180). -/
inductive SlotType where | video | mgmt | aux | fill
deriving DecidableEq, Repr

/-- The degrade indication (01, R18). -/
inductive Indication where | none | reduced | truncating
deriving DecidableEq, Repr

/-- Timing states (02, section 3.5). -/
inductive TimingState where | free | locking | locked | holdover
deriving DecidableEq, Repr

/-- Tally states (01, R10). -/
inductive Tally where | off | preview | onAir
deriving DecidableEq, Repr

/-- Lane states (03, R42). -/
inductive LaneState where | off | aligning | up | failed
deriving DecidableEq, Repr

/-- Watch modes (03, section 4.7). -/
inductive WatchMode where | event | matching
deriving DecidableEq, Repr

/-- Commit states (04, section 5.5). -/
inductive CommitState where | none | pending | draining
deriving DecidableEq, Repr

/-- Measurement run states (06, R103). -/
inductive RunState where | idle | running | complete | aborted
deriving DecidableEq, Repr

/-- Abort causes of a measurement run (06, R103). -/
inductive AbortCause where | none | measureAbort | datapathReset | flush | mapChanged
deriving DecidableEq, Repr

/-- Outcomes of a relay request (07, R118). -/
inductive RelayOutcome where | done | failed | discarded
deriving DecidableEq, Repr

/-- Statuses of a relay request; the outcome is present when it is DECIDED (07, R118). -/
inductive RequestStatus where
  | waiting | inFlight | decided (o : RelayOutcome)
deriving DecidableEq, Repr

/-- Power states (08, section 9.3). -/
inductive PowerState where | dormant | rampingUp | running | rampingDown
deriving DecidableEq, Repr

/-- Causes of a ramp-down (08, R138, R142). -/
inductive RampCause where | none | command | fault
deriving DecidableEq, Repr

/-- The watch timer of a supply output: at most one runs (08, R132). -/
inductive WatchTimer where | none | start | loss
deriving DecidableEq, Repr

/-- Who holds the accessory port (09, R151). -/
inductive Owner where | remote | localSide
deriving DecidableEq, Repr

/-- What a sample of the call input reads (09, R153). -/
inductive CallInput where | pressed | released
deriving DecidableEq, Repr

/-- Port rates in baud (09, R146). -/
inductive PortRate where | r9600 | r19200 | r38400 | r57600 | r115200
deriving DecidableEq, Repr

/-- Status codes of answers, in the order of their codes (10, Table 11-1; 12, section 13.4). -/
inductive Status where
  | ok | badKind | badTable | badIndex | badValue | readOnly | busy | noBudget | faultPending | refused
deriving DecidableEq, Repr

/-- Reasons carried by a REFUSED RELAY_ACCEPT (07, R119; 12, Table 13-6). -/
inductive RelayReason where | none | length | laneNotUp | queueFull
deriving DecidableEq, Repr

/-! ## Messages and cells that leave the part -/

/-- A Relay Result (07, R127). -/
structure RelayResult where
  tag     : Byte
  lane    : Fin 4
  outcome : RelayOutcome
  retries : Nat
  payload : List Byte
deriving DecidableEq, Repr

/-- An upstream message (10, R160, R161; 12, Table 13-6). The flag set of an ALERT_NOTICE is the one of the moment
it was placed; the slot that carries it brings it up to date (11, R174). -/
inductive UpMessage where
  | readAnswer (tag : Byte) (status : Status) (table index count : Byte) (values : List Field)
  | writeAnswer (tag : Byte) (status : Status) (table index count : Byte)
  | commandAnswer (tag : Byte) (status : Status) (code : Byte)
  | relayAccept (tag : Byte) (status : Status) (lane : Byte) (reason : RelayReason)
  | relayResult (r : RelayResult)
  | alertNotice (flags : BitVec 21)
deriving DecidableEq, Repr

/-- The line descriptor in the header of cell 0 (05, R96). Bit k - 1 of `concealed` marks map position k. -/
structure Descriptor where
  frame      : Fin 16
  line       : Nat
  depth      : Depth
  entryCount : Nat
  concealed  : BitVec 16
  truncated  : Bool
  totalCells : Nat
deriving DecidableEq, Repr

/-- A VIDEO cell: its header fields and its packed payload (05, R95, R96). -/
structure VideoCell where
  frame      : Fin 16
  line       : Nat
  index      : Nat
  descriptor : Option Descriptor
  payload    : Payload
deriving DecidableEq, Repr

/-- The fields of a STATUS cell (01, R13). -/
structure StatusCell where
  probe      : Option Byte
  timing     : TimingState
  profile    : Profile
  power      : PowerState
  lanes      : Vector LaneState 4
  callCount  : Fin 16
  summary    : Bool
  depth      : Depth
  indication : Indication
deriving DecidableEq, Repr

/-- The cell a slot carries (01, R14; 12, section 13.2). -/
inductive UpCell where
  | fill
  | status (c : StatusCell)
  | video (c : VideoCell)
  | mgmt (m : UpMessage)
  | aux (bytes : List Byte)
deriving DecidableEq, Repr

/-- An item the part sends to a board (03, Table 4-2). -/
inductive DownItem where
  | frameStart (g : Fin 16)
  | relayCommand (tag : Byte) (payload : List Byte)
deriving DecidableEq, Repr

/-- What the part hands to its pins during one step. MODEL's own, logs 8 and 11. -/
inductive Output where
  /-- a slot of the upstream superframe begins and carries this cell (01, R12, R14) -/
  | slot (n : Nat) (cell : UpCell)
  /-- an item is handed to a lane's downlink (03, R48) -/
  | downlink (lane : Fin 4) (item : DownItem)
  /-- an item still being sent on a lane's downlink is cut off (03, R43, R47) -/
  | cutOff (lane : Fin 4)
  /-- a byte starts at the accessory port (09, R146) -/
  | portByte (b : Byte) (rate : PortRate)
  /-- a block of the training pattern begins on the cable (01, R4; 12, R178) -/
  | trainingBlock (bytes : List Byte)
  /-- an idle word fills a gap on a lane's downlink (03, R46, R48) -/
  | idleWord (lane : Fin 4) (w : LaneBits)
deriving DecidableEq, Repr

/-! ## Triax Link Engine (01) -/

/-- One Slot Schedule bank: the Programmed Pack Depth and entries 1 to 63, entry k at position k - 1 (01, R15). -/
structure SlotBank where
  depth   : Depth
  entries : Vector SlotType 63
deriving DecidableEq, Repr

/-- The degrade result (01, R18). -/
structure Degrade where
  depth      : Depth
  truncating : Bool
  v          : Nat
  indication : Indication
deriving DecidableEq, Repr

/-- The upstream superframe in progress: the bank active at its tick, the slot being sent and its cell (01, R12). -/
structure Superframe where
  bank : Bank
  slot : Nat
  cell : UpCell
deriving DecidableEq, Repr

/-- State of the Triax Link Engine (01, introduction). `carrier` says whether the most recent carrier event was
carrier gained (01, section 2.2). -/
structure Tle where
  link         : LinkState
  carrier      : Bool
  profile      : Profile
  cap          : Profile
  attemptTimer : Bool
  goodRun      : Nat
  restartWait  : Bool
  badRun       : Nat
  schedA       : SlotBank
  schedB       : SlotBank
  active       : Bank
  buffer       : List VideoCell
  degrade      : Degrade
  superframe   : Option Superframe
deriving DecidableEq, Repr

/-! ## Reference Timing Unit (02) -/

/-- Timing Settings (02, R20). -/
structure TimingSettings where
  total   : Nat
  active  : Nat
  latency : Nat
  lead    : Nat
  offset  : Nat
deriving DecidableEq, Repr

/-- The previous-marker record (02, R22). -/
structure MarkerRecord where
  line : Nat
  tag  : Fin 16
  time : Nat
deriving DecidableEq, Repr

/-- The label of a head line tick: frame tag and tick number (00, Table 1-2). -/
structure Label where
  frame : Fin 16
  num   : Nat
deriving DecidableEq, Repr

/-- A scheduled head line tick (02, R31, R32). -/
structure Tick where
  label : Label
  time  : Nat
deriving DecidableEq, Repr

/-- The outstanding probe (02, R23). -/
structure Probe where
  id   : Byte
  sent : Nat
  age  : Nat
deriving DecidableEq, Repr

/-- State of the Reference Timing Unit (02, introduction). `lastTick` is the last tick scheduled since the lock
attempt (02, R34). -/
structure Rtu where
  timing      : TimingState
  settings    : TimingSettings
  prev        : Option MarkerRecord
  lp          : Option Nat
  lockCount   : Nat
  lockRef     : Option Nat
  dapp        : Option Nat
  lastDelay   : Option Nat
  advance     : Option Nat
  wait        : Option Nat
  ticks       : List Tick
  lastTick    : Option Tick
  deadline    : Option Nat
  missRun     : Nat
  head        : Option Label
  triggered   : Option (Fin 16)
  lastProbeId : Byte
  probe       : Option Probe
  abandonRun  : Nat
deriving DecidableEq, Repr

/-! ## Sensor Lane Receivers (03) -/

/-- State of one Sensor Lane Receiver with its lane's fields of Lane Settings (03, introduction, R60). -/
structure Lane where
  state          : LaneState
  supplyGood     : Bool
  idleRun        : Nat
  alignTimer     : Bool
  errCount       : Nat
  lastWord       : Option LaneBits
  candidate      : Option LaneBits
  latched        : LaneBits
  eventMark      : Bool
  staleCount     : Nat
  stale          : Bool
  errThreshold   : Nat
  retryLimit     : Nat
  watchMode      : WatchMode
  watchMask      : LaneBits
  watchCompare   : LaneBits
deriving DecidableEq, Repr

/-- The global seam fields of Lane Settings (03, R60, indices 20 to 22). -/
structure SeamSettings where
  threshold  : Nat
  hysteresis : Nat
  queue      : Nat
deriving DecidableEq, Repr

/-- The four Sensor Lane Receivers and the global fields of Lane Settings. -/
structure Slr where
  lanes : Vector Lane 4
  seam  : SeamSettings
deriving DecidableEq, Repr

/-! ## Line Assembly Store (04) -/

/-- One entry place of a Tile Map bank (04, R62). -/
structure Place where
  lane       : Fin 4
  segment    : Fin 4
  width      : Nat
  correction : Fin 16
  seam       : Bool
deriving DecidableEq, Repr

/-- One Tile Map bank: the Entry Count and entry places 1 to 16, place k at position k - 1 (04, R62). -/
structure TileBank where
  count  : Nat
  places : Vector Place 16
deriving DecidableEq, Repr

/-- A present entry of a line record with its sample area (04, R64). -/
structure Segment where
  lane    : Fin 4
  segment : Fin 4
  samples : List Sample
deriving DecidableEq, Repr

/-- A line record in use; `complete` is its state, OPEN or COMPLETE (04, R64). -/
structure LineRecord where
  frame    : Fin 16
  line     : Nat
  stamp    : Bank
  complete : Bool
  present  : List Segment
deriving DecidableEq, Repr

/-- State of the Line Assembly Store (04, introduction). `records` lists the records in use. -/
structure Las where
  mapA          : TileBank
  mapB          : TileBank
  active        : Bank
  records       : List LineRecord
  currentBank   : Bank
  triggeredBank : Bank
  commit        : CommitState
  target        : Option Bank
  switchFrame   : Option (Fin 16)
  flipMark      : Bool
deriving DecidableEq, Repr

/-! ## Line Departure Unit (05, 06) -/

/-- One Correction Table entry: Black, Gain, Pedestal (05, R90). -/
structure Correction where
  black    : BitVec 12
  gain     : BitVec 16
  pedestal : BitVec 12
deriving DecidableEq, Repr

/-- One place of the Held Copy (05, R87). -/
structure HeldPlace where
  valid   : Bool
  width   : Nat
  samples : List Sample
deriving DecidableEq, Repr

/-- One measurement accumulator (06, R103). -/
structure Accumulator where
  sum   : Nat
  count : Nat
deriving DecidableEq, Repr

/-- The measurement run with its accumulators and results (06, R103). -/
structure MeasureRun where
  state   : RunState
  n       : Nat
  apply   : Bool
  lines   : Nat
  cause   : AbortCause
  applied : Bool
  acc     : Vector Accumulator 16
  results : Vector (Option (BitVec 12)) 16
deriving DecidableEq, Repr

/-- One seam record; `isOpen` is its state, CLOSED or OPEN (06, R111). -/
structure SeamRecord where
  left    : Nat
  isOpen  : Bool
  sumDiff : Int
  lines   : Nat
  run     : Nat
  lastD   : Option Int
deriving DecidableEq, Repr

/-- State of the Line Departure Unit (05 and 06, introductions). The Held Copy place of (lane, segment id) stands
at position 4 * lane + segment id. -/
structure Ldu where
  correction : Vector Correction 16
  held       : Vector HeldPlace 16
  run        : MeasureRun
  seams      : List SeamRecord
deriving DecidableEq, Repr

/-! ## Board Control Relay (07) -/

/-- One relay request (07, R118). -/
structure Request where
  tag     : Byte
  payload : List Byte
  status  : RequestStatus
  answer  : List Byte
  retries : Nat
deriving DecidableEq, Repr

/-- The relay of one lane (07, introduction). -/
structure RelayLane where
  queue : List Request
  timer : Bool
  held  : Option RelayResult
deriving DecidableEq, Repr

/-! ## Board Supply Sequencer (08) -/

/-- One supply output with the level of its power-good input (08, R132). -/
structure Supply where
  enable    : Bool
  good      : Bool
  timer     : WatchTimer
  faultHeld : Bool
  input     : Bool
deriving DecidableEq, Repr

/-- State of the Board Supply Sequencer (08, introduction). `delay` names the delay running, DLY1 as 0 to DLY4 as 3;
mark 2n is the START mark of SUPn and mark 2n + 1 its LOSS mark (08, R143). -/
structure Bss where
  power      : PowerState
  strobes    : Vector Nat 6
  delays     : Vector Nat 4
  nextStrobe : Option Nat
  delay      : Option (Fin 4)
  cause      : RampCause
  outputs    : Vector Supply 6
  marks      : BitVec 12
deriving DecidableEq, Repr

/-! ## Accessory Channel Unit (09) -/

/-- State of the Accessory Channel Unit (09, introduction). `sending` is the byte being sent and the rate it began
with, none while the transmitter is IDLE (09, R146). -/
structure Acu where
  down       : List Byte
  up         : List Byte
  downEscape : Bool
  upEscape   : Bool
  owner      : Owner
  sending    : Option (Byte × PortRate)
  callCount  : Fin 16
  armed      : Bool
  prevSample : Option CallInput
  tally      : Tally
  red        : Bool
  green      : Bool
  portRate   : PortRate
deriving DecidableEq, Repr

/-! ## Link Management Agent (10, 11) -/

/-- State of the Link Management Agent (10 and 11, introductions). Flag and mask i stand at bit i. -/
structure Lma where
  ingress       : List Message
  egress        : List UpMessage
  noticePending : Bool
  rotation      : Fin 4
  flags         : BitVec 21
  masks         : BitVec 21
  counters      : Vector (BitVec 16) 19
deriving DecidableEq, Repr

/-! ## The whole part -/

/-- The state of the part. `out` is what the last step handed to the pins, `pending` the commands waiting,
oldest first; both are the MODEL's own. -/
structure State where
  tle     : Tle
  rtu     : Rtu
  slr     : Slr
  las     : Las
  ldu     : Ldu
  bcr     : Vector RelayLane 4
  bss     : Bss
  acu     : Acu
  lma     : Lma
  out     : List Output
  pending : List Instr
deriving DecidableEq, Repr

namespace State

/-- Act on the Triax Link Engine alone. -/
def mapTle (f : Tle → Tle) (s : State) : State := { s with tle := f s.tle }
/-- Act on the Reference Timing Unit alone. -/
def mapRtu (f : Rtu → Rtu) (s : State) : State := { s with rtu := f s.rtu }
/-- Act on the Sensor Lane Receivers alone. -/
def mapSlr (f : Slr → Slr) (s : State) : State := { s with slr := f s.slr }
/-- Act on the Line Assembly Store alone. -/
def mapLas (f : Las → Las) (s : State) : State := { s with las := f s.las }
/-- Act on the Line Departure Unit alone. -/
def mapLdu (f : Ldu → Ldu) (s : State) : State := { s with ldu := f s.ldu }
/-- Act on the relay of one lane alone. -/
def mapRelay (i : Fin 4) (f : RelayLane → RelayLane) (s : State) : State :=
  { s with bcr := s.bcr.set i (f s.bcr[i]) }
/-- Act on the Board Supply Sequencer alone. -/
def mapBss (f : Bss → Bss) (s : State) : State := { s with bss := f s.bss }
/-- Act on the Accessory Channel Unit alone. -/
def mapAcu (f : Acu → Acu) (s : State) : State := { s with acu := f s.acu }
/-- Act on the Link Management Agent alone. -/
def mapLma (f : Lma → Lma) (s : State) : State := { s with lma := f s.lma }
/-- Hand one more output to the pins. -/
def emit (o : Output) (s : State) : State := { s with out := s.out ++ [o] }
/-- Act on one lane receiver alone. -/
def mapLane (i : Fin 4) (f : Lane → Lane) (s : State) : State :=
  { s with slr := { s.slr with lanes := s.slr.lanes.set i (f s.slr.lanes[i]) } }

end State

/-! ## Power-on reset -/

/-- A Slot Schedule bank after power-on reset (01, R15). -/
def resetSlotBank : SlotBank :=
  { depth := .d12, entries := ((Vector.replicate 63 SlotType.fill).set 0 .mgmt).set 1 .aux }

/-- The Triax Link Engine after power-on reset (01, Table 2-3). The good-superframe run and the carrier are DESIGN
CHOICE, logs 23 and 9. -/
def resetTle : Tle :=
  { link := .down, carrier := false, profile := .p4, cap := .p4, attemptTimer := false, goodRun := 0,
    restartWait := false, badRun := 0, schedA := resetSlotBank, schedB := resetSlotBank, active := .a,
    buffer := [], degrade := { depth := .d12, truncating := false, v := 0, indication := .none },
    superframe := none }

/-- The Reference Timing Unit after power-on reset (02, Table 3-2). -/
def resetRtu : Rtu :=
  { timing := .free, settings := { total := 1125, active := 1080, latency := 4, lead := 2, offset := 0 },
    prev := none, lp := none, lockCount := 0, lockRef := none, dapp := none, lastDelay := none, advance := none,
    wait := none, ticks := [], lastTick := none, deadline := none, missRun := 0, head := none, triggered := none,
    lastProbeId := 255, probe := none, abandonRun := 0 }

/-- A Sensor Lane Receiver after power-on reset (03, Table 4-3, R60). -/
def resetLane : Lane :=
  { state := .off, supplyGood := false, idleRun := 0, alignTimer := false, errCount := 0, lastWord := none,
    candidate := none, latched := 0, eventMark := false, staleCount := 0, stale := false, errThreshold := 4,
    retryLimit := 2, watchMode := .event, watchMask := 0, watchCompare := 0 }

/-- An entry place after power-on reset (04, R62). -/
def resetPlace : Place := { lane := 0, segment := 0, width := 1, correction := 0, seam := false }

/-- A Tile Map bank after power-on reset (04, R62). -/
def resetTileBank : TileBank := { count := 0, places := Vector.replicate 16 resetPlace }

/-- The Line Assembly Store after power-on reset (04, R83). -/
def resetLas : Las :=
  { mapA := resetTileBank, mapB := resetTileBank, active := .a, records := [], currentBank := .a,
    triggeredBank := .a, commit := .none, target := none, switchFrame := none, flipMark := false }

/-- The Line Departure Unit after power-on reset (05, R102; 06, R103). Width and samples of the invalid Held Copy
places are DESIGN CHOICE, log 23. -/
def resetLdu : Ldu :=
  { correction := Vector.replicate 16 { black := 0, gain := 16384, pedestal := 0 },
    held := Vector.replicate 16 { valid := false, width := 0, samples := [] },
    run := { state := .idle, n := 0, apply := false, lines := 0, cause := .none, applied := false,
             acc := Vector.replicate 16 { sum := 0, count := 0 }, results := Vector.replicate 16 none },
    seams := [] }

/-- The Board Supply Sequencer after power-on reset (08, R145, R134). The input levels are DESIGN CHOICE, log 9. -/
def resetBss : Bss :=
  { power := .dormant, strobes := #v[2, 2, 2, 2, 1, 3], delays := #v[2, 2, 2, 2], nextStrobe := none,
    delay := none, cause := .none,
    outputs := Vector.replicate 6 { enable := false, good := false, timer := .none, faultHeld := false, input := false },
    marks := 0 }

/-- The Accessory Channel Unit after power-on reset (09, Table 10-1). -/
def resetAcu : Acu :=
  { down := [], up := [], downEscape := false, upEscape := false, owner := .remote, sending := none, callCount := 0,
    armed := false, prevSample := none, tally := .off, red := false, green := false, portRate := .r38400 }

/-- The Link Management Agent after power-on reset (10, R170; 11, Table 12-1): POWER_ON, flag 0, is SET and its
Alert Notice stands in Egress. -/
def resetLma : Lma :=
  { ingress := [], egress := [.alertNotice 1#21], noticePending := false, rotation := 3, flags := 1#21, masks := 0,
    counters := Vector.replicate 19 0 }

/-- The part right after power-on reset, with no carrier and every power-good input low (log 9). -/
def State.reset : State :=
  { tle := resetTle, rtu := resetRtu,
    slr := { lanes := Vector.replicate 4 resetLane, seam := { threshold := 32, hysteresis := 4, queue := 2 } },
    las := resetLas, ldu := resetLdu,
    bcr := Vector.replicate 4 { queue := [], timer := false, held := none },
    bss := resetBss, acu := resetAcu, lma := resetLma, out := [], pending := [] }

end Sys2Proof.Machine
end

