-- ==== Sys2Proof/Machine/Bits.lean ====
section
/-! DEFINITION. Byte order, checks and codes of 12, Formats Reference: the one place where they are decided. -/

namespace Sys2Proof.Machine

/-! ## Byte order -/

/-- The number a run of bytes holds, most significant byte first (12, introduction). -/
def bytesToNat (bs : List Byte) : Nat := bs.foldl (fun n b => n * 256 + b.toNat) 0

/-- The `k` bytes of a number, most significant byte first. -/
def natToBytes (k n : Nat) : List Byte :=
  (List.range k).map fun i => BitVec.ofNat 8 (n >>> (8 * (k - 1 - i)))

/-- Byte `i` of a run of bytes; 0 where the run is shorter (log 26). -/
def byteAt (bs : List Byte) (i : Nat) : Byte := bs.getD i 0

/-- The number in `k` bytes from byte `i` on. -/
def numberAt (bs : List Byte) (i k : Nat) : Nat := bytesToNat ((bs.drop i).take k)

/-- Bytes laid out as a cell payload: the first byte most significant, the rest of the payload 0 (12, 13.2). -/
def bytesToPayload (bs : List Byte) : Payload :=
  BitVec.ofNat 3360 (bytesToNat (bs.take 420) <<< (8 * (420 - (bs.take 420).length)))

/-! ## The CRC checks (12, R177, R179) -/

/-- One bit of the CRC-32, most significant bit first. -/
def crc32Bit (c : BitVec 32) : BitVec 32 :=
  if c.msb then (c <<< 1) ^^^ 0x04C11DB7#32 else c <<< 1

/-- One byte of the CRC-32. -/
def crc32Byte (c : BitVec 32) (b : Byte) : BitVec 32 :=
  let c := c ^^^ (b.setWidth 32 <<< 24)
  crc32Bit (crc32Bit (crc32Bit (crc32Bit (crc32Bit (crc32Bit (crc32Bit (crc32Bit c)))))))

/-- The CRC-32 of a run of bytes: initial value all ones, no reflection, result inverted (12, R177). -/
def crc32 (bs : List Byte) : BitVec 32 := ~~~(bs.foldl crc32Byte 0xFFFFFFFF#32)

/-- One bit of the CRC-16, most significant bit first. -/
def crc16Bit (c : BitVec 16) : BitVec 16 :=
  if c.msb then (c <<< 1) ^^^ 0x1021#16 else c <<< 1

/-- One lane word of the CRC-16, high byte first. -/
def crc16Word (c : BitVec 16) (w : LaneBits) : BitVec 16 :=
  let hi := c ^^^ ((w >>> 8) <<< 8)
  let c := crc16Bit (crc16Bit (crc16Bit (crc16Bit (crc16Bit (crc16Bit (crc16Bit (crc16Bit hi)))))))
  let lo := c ^^^ (w <<< 8)
  crc16Bit (crc16Bit (crc16Bit (crc16Bit (crc16Bit (crc16Bit (crc16Bit (crc16Bit lo)))))))

/-- The CRC-16 of a run of lane words: initial value all ones, no reflection, no inversion (12, R179). -/
def crc16 (ws : List LaneBits) : BitVec 16 := ws.foldl crc16Word 0xFFFF#16

/-! ## Numbers and codes of the enumerations (12, R180; log 18) -/

/-- The other bank. -/
def Bank.other : Bank → Bank
  | .a => .b
  | .b => .a

/-- Bank A is coded 0 and bank B 1 (12, R180). -/
def Bank.code : Bank → Nat
  | .a => 0
  | .b => 1

/-- Bits per sample (00, section 1.6). -/
def Depth.bits : Depth → Nat
  | .d10 => 10
  | .d12 => 12
  | .d14 => 14

/-- Samples per cell (01, R18). -/
def Depth.perCell : Depth → Nat
  | .d10 => 336
  | .d12 => 280
  | .d14 => 240

/-- The effective depth code of a VIDEO cell header (12, Table 13-2). -/
def Depth.code : Depth → Nat
  | .d10 => 0
  | .d12 => 1
  | .d14 => 2

/-- The depth a number names, if it names one (01, R15). -/
def depthOfNat : Nat → Option Depth
  | 10 => some .d10
  | 12 => some .d12
  | 14 => some .d14
  | _ => none

/-- Profiles are carried as their numbers 1 to 4 (12, R180). -/
def Profile.number : Profile → Nat
  | .p1 => 1
  | .p2 => 2
  | .p3 => 3
  | .p4 => 4

/-- The profile a number names, if it names one (01, R2). -/
def profileOfNat : Nat → Option Profile
  | 1 => some .p1
  | 2 => some .p2
  | 3 => some .p3
  | 4 => some .p4
  | _ => none

/-- The Slot Budget of a profile (01, Table 2-1). -/
def Profile.budget : Profile → Nat
  | .p1 => 24
  | .p2 => 32
  | .p3 => 48
  | .p4 => 64

/-- The next lower profile, none below P1 (01, R4). -/
def Profile.lower : Profile → Option Profile
  | .p1 => none
  | .p2 => some .p1
  | .p3 => some .p2
  | .p4 => some .p3

def LinkState.code : LinkState → Nat
  | .down => 0
  | .training => 1
  | .online => 2

def SlotType.code : SlotType → Nat
  | .video => 0
  | .mgmt => 1
  | .aux => 2
  | .fill => 3

/-- The slot type a code names, if it names one (01, R15). -/
def slotTypeOfNat : Nat → Option SlotType
  | 0 => some .video
  | 1 => some .mgmt
  | 2 => some .aux
  | 3 => some .fill
  | _ => none

def Indication.code : Indication → Nat
  | .none => 0
  | .reduced => 1
  | .truncating => 2

def TimingState.code : TimingState → Nat
  | .free => 0
  | .locking => 1
  | .locked => 2
  | .holdover => 3

def Tally.code : Tally → Nat
  | .off => 0
  | .preview => 1
  | .onAir => 2

/-- The tally state a code names, if it names one (12, Table 13-1, R177). -/
def tallyOfNat : Nat → Option Tally
  | 0 => some .off
  | 1 => some .preview
  | 2 => some .onAir
  | _ => none

def LaneState.code : LaneState → Nat
  | .off => 0
  | .aligning => 1
  | .up => 2
  | .failed => 3

def CommitState.code : CommitState → Nat
  | .none => 0
  | .pending => 1
  | .draining => 2

def RunState.code : RunState → Nat
  | .idle => 0
  | .running => 1
  | .complete => 2
  | .aborted => 3

def AbortCause.code : AbortCause → Nat
  | .none => 0
  | .measureAbort => 1
  | .datapathReset => 2
  | .flush => 3
  | .mapChanged => 4

def PowerState.code : PowerState → Nat
  | .dormant => 0
  | .rampingUp => 1
  | .running => 2
  | .rampingDown => 3

def RampCause.code : RampCause → Nat
  | .none => 0
  | .command => 1
  | .fault => 2

def WatchMode.code : WatchMode → Nat
  | .event => 0
  | .matching => 1

def Owner.code : Owner → Nat
  | .remote => 0
  | .localSide => 1

/-- The Port Rate is carried in baud (12, R180). -/
def PortRate.baud : PortRate → Nat
  | .r9600 => 9600
  | .r19200 => 19200
  | .r38400 => 38400
  | .r57600 => 57600
  | .r115200 => 115200

/-- The Port Rate a number of baud names, if it names one (09, R146). -/
def portRateOfNat : Nat → Option PortRate
  | 9600 => some .r9600
  | 19200 => some .r19200
  | 38400 => some .r38400
  | 57600 => some .r57600
  | 115200 => some .r115200
  | _ => none

/-- Status codes run 0 to 9 (12, section 13.4). -/
def Status.code : Status → Nat
  | .ok => 0
  | .badKind => 1
  | .badTable => 2
  | .badIndex => 3
  | .badValue => 4
  | .readOnly => 5
  | .busy => 6
  | .noBudget => 7
  | .faultPending => 8
  | .refused => 9

/-- Reasons of a RELAY_ACCEPT (12, Table 13-6). -/
def RelayReason.code : RelayReason → Nat
  | .none => 0
  | .length => 1
  | .laneNotUp => 2
  | .queueFull => 3

/-- Outcomes of a RELAY_RESULT (12, Table 13-6). -/
def RelayOutcome.code : RelayOutcome → Nat
  | .done => 1
  | .failed => 2
  | .discarded => 3

/-- A field with two values: cleared, off, no, NOT_GOOD, CLEAR and UNMASKED are 0 (12, R180). -/
def boolCode (b : Bool) : Nat := if b then 1 else 0

end Sys2Proof.Machine
end

