-- ==== Sys2Proof/Machine/Flags.lean ====
section
/-! DEFINITION. Alert flags, alert masks, the Alert Notice and the counters (11). -/

namespace Sys2Proof.Machine

/-- The 21 alert flags (11, R171). -/
inductive Flag where
  | powerOn | linkState | profileDrop | degraded | timingState | delayRange | probeLost | referenceLost
  | laneState | boardStatus | statusStale | concealment | segmentDiscard | seam | measureDone | commitDone
  | supplyFault | powerState | auxOverrun | call | mgmtError
deriving DecidableEq, Repr

/-- The table index of a flag (11, R171). -/
def Flag.index : Flag → Nat
  | .powerOn => 0 | .linkState => 1 | .profileDrop => 2 | .degraded => 3 | .timingState => 4 | .delayRange => 5
  | .probeLost => 6 | .referenceLost => 7 | .laneState => 8 | .boardStatus => 9 | .statusStale => 10
  | .concealment => 11 | .segmentDiscard => 12 | .seam => 13 | .measureDone => 14 | .commitDone => 15
  | .supplyFault => 16 | .powerState => 17 | .auxOverrun => 18 | .call => 19 | .mgmtError => 20

/-- The flag's bit in the flag set. -/
def Flag.bit (f : Flag) : BitVec 21 := 1#21 <<< f.index

/-- The 19 counters (11, R175). -/
inductive Counter where
  | badCheck | badLength | late | early | duplicate | unknownSegment | outOfRange | concealedSegment | droppedLine
  | truncatedLine | markerMiss | badInterval | badProbe | probeMiss | relayRetry | strayAnswer | auxOverrun
  | mgmtOverflow | mgmtBad
deriving DecidableEq, Repr

/-- The table index of a counter (11, R175). -/
def Counter.index : Counter → Fin 19
  | .badCheck => 0 | .badLength => 1 | .late => 2 | .early => 3 | .duplicate => 4 | .unknownSegment => 5
  | .outOfRange => 6 | .concealedSegment => 7 | .droppedLine => 8 | .truncatedLine => 9 | .markerMiss => 10
  | .badInterval => 11 | .badProbe => 12 | .probeMiss => 13 | .relayRetry => 14 | .strayAnswer => 15
  | .auxOverrun => 16 | .mgmtOverflow => 17 | .mgmtBad => 18

/-- Counting adds the stated amount and stops at 65535 (11, R175). -/
def saturate (c : BitVec 16) (k : Nat) : BitVec 16 := BitVec.ofNat 16 (min 65535 (c.toNat + k))

/-- The value of a counter. -/
def Lma.counter (l : Lma) (c : Counter) : BitVec 16 := l.counters[c.index]

/-- Whether a flag is SET. -/
def Lma.flag (l : Lma) (f : Flag) : Bool := l.flags.getLsbD f.index

/-- Raise a flag: it is SET from then on (11, R171). The Alert Notice a rising raise gives rise to is placed at the
end of the event, by `Lma.placeNotice` (log 15). -/
def Lma.raise (f : Flag) (l : Lma) : Lma := { l with flags := l.flags ||| f.bit }

/-- Count an amount on a counter (11, R175). -/
def Lma.addCount (c : Counter) (k : Nat) (l : Lma) : Lma :=
  { l with counters := l.counters.set c.index (saturate l.counters[c.index] k) }

/-- Egress holds at most 8 messages (10, R161). -/
def egressSize : Nat := 8

/-- Ingress holds at most 8 messages (10, R159). -/
def ingressSize : Nat := 8

/-- Whether Egress has a free place. -/
def Lma.room (l : Lma) : Bool := l.egress.length < egressSize

/-- Place a message at the tail of Egress (10, R161). -/
def Lma.place (m : UpMessage) (l : Lma) : Lma := { l with egress := l.egress ++ [m] }

/-- Whether a message is an ALERT_NOTICE. -/
def UpMessage.isNotice : UpMessage → Bool
  | .alertNotice _ => true
  | _ => false

/-- A notice is outstanding while the notice-pending mark is set or an ALERT_NOTICE stands in Egress (11, R174). -/
def Lma.noticeOutstanding (l : Lma) : Bool := l.noticePending || l.egress.any UpMessage.isNotice

/-- The flags that became SET since the flag set was `before`, as far as they are UNMASKED (11, R171, R173). -/
def Lma.risen (before : BitVec 21) (l : Lma) : BitVec 21 := l.flags &&& ~~~before &&& ~~~l.masks

/-- What a rising raise of an UNMASKED flag gives rise to, at the end of the event that found the flag set at
`before` (11, R174). -/
def Lma.placeNotice (before : BitVec 21) (l : Lma) : Lma :=
  if l.risen before = 0 then l
  else if l.noticeOutstanding then l
  else if l.room then l.place (.alertNotice l.flags)
  else { l with noticePending := true }

/-- The alert summary of a STATUS cell: some flag is SET and UNMASKED (01, R13; 11, R173). -/
def Lma.summary (l : Lma) : Bool := (l.flags &&& ~~~l.masks) != 0

namespace State

/-- A block raises a flag. -/
def raise (f : Flag) (s : State) : State := s.mapLma (Lma.raise f)

/-- A block counts an amount on a counter. -/
def count (c : Counter) (k : Nat) (s : State) : State := s.mapLma (Lma.addCount c k)

/-- The end of an event that found the flag set at `before`. -/
def placeNotice (before : BitVec 21) (s : State) : State := s.mapLma (Lma.placeNotice before)

end State

/-- One event that places nothing in Egress but an Alert Notice: the effect, then the notice (11, R174). -/
def event (effect : State → State) (s : State) : State := (effect s).placeNotice s.lma.flags

/-- A command begins: nothing has been handed to the pins yet (log 11). -/
def beginCommand (s : State) : State := { s with out := [] }

end Sys2Proof.Machine
end

