-- ==== Sys2Proof/Machine/Accessory.lean ====
section
/-! DEFINITION. The accessory port, its two FIFOs, its owner and the call count (09). -/

namespace Sys2Proof.Machine

/-- Each aux FIFO holds at most 256 bytes (09, R148, R150). -/
def fifoSize : Nat := 256

/-! ## The transmitter (09, R146) -/

/-- The transmitter starts on the oldest byte of the Downstream Aux FIFO when the owner is REMOTE, it is IDLE and the
FIFO holds a byte (09, R146). -/
def startTx (s : State) : State :=
  match s.acu.owner, s.acu.sending, s.acu.down with
  | .remote, none, b :: rest =>
    (s.mapAcu fun a => { a with sending := some (b, a.portRate), down := rest }).emit (.portByte b s.acu.portRate)
  | _, _, _ => s

/-- The end of a transmission (09, R146). -/
def txDone (s : State) : State :=
  if s.acu.sending.isSome then startTx (s.mapAcu fun a => { a with sending := none }) else s

/-- A byte is lost at a full FIFO (09, R148, R150). -/
def auxLost (s : State) : State := (s.count .auxOverrun 1).raise .auxOverrun

/-- A data byte is offered to the Downstream Aux FIFO (09, R148). -/
def offerDown (b : Byte) (s : State) : State :=
  if s.acu.down.length < fifoSize then startTx (s.mapAcu fun a => { a with down := a.down ++ [b] }) else auxLost s

/-- A data byte is offered to the Upstream Aux FIFO (09, R150). -/
def offerUp (b : Byte) (s : State) : State :=
  if s.acu.up.length < fifoSize then s.mapAcu fun a => { a with up := a.up ++ [b] } else auxLost s

/-! ## Owner and call (09, R152 to R154) -/

/-- The owner becomes REMOTE; a change makes the test of the transmitter (09, R152, R146). -/
def ownerRemote (s : State) : State :=
  if s.acu.owner = .remote then s else startTx (s.mapAcu fun a => { a with owner := .remote })

/-- The owner becomes LOCAL (09, R152). -/
def ownerLocal (s : State) : State := s.mapAcu fun a => { a with owner := .localSide }

/-- The call count rises by 1, modulo 16 (09, R154). -/
def countCall (s : State) : State := (s.mapAcu fun a => { a with callCount := a.callCount + 1 }).raise .call

/-! ## Bytes (09, R147, R149) -/

/-- A downstream aux byte (09, R147). -/
def takeAuxByte (s : State) (b : Byte) : State :=
  if s.acu.downEscape then offerDown b (s.mapAcu fun a => { a with downEscape := false })
  else if b = 0x1F#8 then s.mapAcu fun a => { a with downEscape := true }
  else if b = 0x1D#8 then ownerRemote s
  else if b = 0x1C#8 ∨ b = 0x1E#8 then s
  else offerDown b s

/-- A byte received whole at the port (09, R149). -/
def takePortByte (b : Byte) (s : State) : State :=
  if s.acu.upEscape then offerUp b (s.mapAcu fun a => { a with upEscape := false })
  else if b = 0x1F#8 then s.mapAcu fun a => { a with upEscape := true }
  else if b = 0x1C#8 then ownerLocal s
  else if b = 0x1D#8 then ownerRemote s
  else if b = 0x1E#8 then countCall s
  else offerUp b s

/-- A sample of the call input (09, R153). -/
def takeCallSample (pressed : Bool) (s : State) : State :=
  if pressed then
    if s.acu.armed = true ∧ s.acu.prevSample = some .pressed then
      countCall (s.mapAcu fun a => { a with armed := false })
    else s.mapAcu fun a => { a with prevSample := some .pressed }
  else s.mapAcu fun a => { a with armed := true, prevSample := some .released }

/-- DATAPATH_RESET at the ACU (09, R157). -/
def clearAccessory (s : State) : State :=
  s.mapAcu fun a => { a with down := [], up := [], downEscape := false, upEscape := false }

end Sys2Proof.Machine
end

