-- ==== Sys2Proof/Config.lean ====
section
/-! DEFINITION. What the spec leaves open and no state of the part decides: constants without a body, so that
no proof can rest on a value of theirs. -/

namespace Sys2Proof

/-- Whether the abandonment of a probe at a head line tick with tick number 0 that starts an upstream
superframe (02, R25) frees the way for a new probe at that same tick (R23), or only from the next event of R23
on. R32 lists the probe issue before the probe age, while R25 says that only with Total below 64 a probe may
still be outstanding at the next tick 0: the spec does not settle Total = 64. DESIGN CHOICE: left open, log 13;
safe, since no statement can depend on it. -/
opaque Config.reissueAtAbandonTick : Bool

end Sys2Proof
end

