-- ==== Sys2Proof/Machine/Operands.lean ====
section
/-! DEFINITION. The operand forms: what a downstream superframe, a lane item, a management body and an 8-byte field
hold, read from their bytes and words (12; 03, R50, R51). -/

namespace Sys2Proof.Machine

/-! ## The downstream superframe (12, Table 13-1, R177) -/

/-- An echo: the probe id and the base station's hold time in du (01, R11). -/
structure Echo where
  id   : Byte
  hold : Nat
deriving DecidableEq, Repr

/-- The parts of a good downstream superframe (01, section 2.3). -/
structure Downstream where
  line  : Nat
  tag   : Fin 16
  tally : Tally
  echo  : Option Echo
  cells : List Message
  aux   : List Byte
deriving DecidableEq, Repr

/-- The bytes of a management cell: six header bytes and the body area (12, Table 13-5). -/
def cellSize : Nat := 246

/-- The Management Message in a management cell (12, Table 13-5). -/
def messageOfBytes (bs : List Byte) : Message :=
  { kind := byteAt bs 0, tag := byteAt bs 1, table := byteAt bs 2, index := byteAt bs 3, count := byteAt bs 4,
    length := byteAt bs 5, body := (bs.drop 6).take 240 }

/-- The management cell count, byte 7 (12, R177). -/
def cellCount (bs : List Byte) : Nat := (byteAt bs 7).toNat

/-- The aux byte count, byte 8 (12, R177). -/
def auxCount (bs : List Byte) : Nat := (byteAt bs 8).toNat

/-- Where the CRC-32 stands: at byte 9 + 246 c + a (12, R177). -/
def crcPosition (bs : List Byte) : Nat := 9 + cellSize * cellCount bs + auxCount bs

/-- Whether a downstream superframe is good (01, R10; 12, R177). -/
def superframeGood (bs : List Byte) : Bool :=
  cellCount bs ≤ 2 && auxCount bs ≤ 64 && (byteAt bs 3).toNat ≤ 1 &&
  (tallyOfNat ((byteAt bs 2).toNat / 16 % 4)).isSome &&
  crcPosition bs + 4 ≤ bs.length &&
  (crc32 (bs.take (crcPosition bs))).toNat == numberAt bs (crcPosition bs) 4

/-- The parts of a downstream superframe whose check has passed (12, Table 13-1). -/
def superframeParts (bs : List Byte) : Downstream :=
  { line := numberAt bs 0 2
    tag := Fin.ofNat 16 (byteAt bs 2).toNat
    tally := (tallyOfNat ((byteAt bs 2).toNat / 16 % 4)).getD .off
    echo := if byteAt bs 3 = 1#8 then some { id := byteAt bs 4, hold := numberAt bs 5 2 } else none
    cells := (List.range (cellCount bs)).map fun i => messageOfBytes (bs.drop (9 + cellSize * i))
    aux := (bs.drop (9 + cellSize * cellCount bs)).take (auxCount bs) }

/-- The superframe as the TLE takes it: its parts when it is good, none when it is bad (01, R10). -/
def parseSuperframe (bs : List Byte) : Option Downstream :=
  if superframeGood bs then some (superframeParts bs) else none

/-! ## Lane items (12, Table 13-4, R179) -/

/-- The kind code of a control word: bits 15 to 12. -/
def kindCode (w : LaneBits) : Nat := (w >>> 12).toNat

/-- A good tile packet, as far as the SLR judges it (03, R51). -/
structure TilePacket where
  frame   : Fin 16
  segment : Fin 4
  line    : Nat
  count   : Nat
  samples : List Sample
deriving DecidableEq, Repr

/-- What the SLR's own judgement makes of an item (03, R50, R51). -/
inductive Judged where
  /-- an idle word: taken, no effect (03, R49) -/
  | idle
  /-- the item fails its check; `status` says whether its kind code is that of a status word -/
  | badCheck (status : Bool)
  /-- the check passes and the SLR itself finds the length wrong -/
  | badLength
  | tile (p : TilePacket)
  | status (value : LaneBits)
  | answer (tag : Byte) (payload : List Byte)
deriving DecidableEq, Repr

/-- Data word `i` of an item. -/
def itemWord (it : LaneItem) (i : Nat) : LaneBits := it.data.getD i 0

/-- The data words the item has before its CRC-16, the last data word (12, section 13.3). -/
def itemContents (it : LaneItem) : List LaneBits := it.data.dropLast

/-- Whether the item's check passes, given the fixed number of words of its kind (12, R179; a coding error within an
item fails it too, 03, R49). -/
def checkPasses (it : LaneItem) (fixed : Nat) : Bool :=
  !it.codingError && fixed ≤ it.data.length &&
  (crc16 (it.control :: itemContents it)) == it.data.getLastD 0

/-- The two bytes of a lane word, the high byte first. -/
def wordBytes (w : LaneBits) : List Byte := [(w >>> 8).setWidth 8, w.setWidth 8]

/-- The payload of a relay answer: the first `n` bytes of its payload words (12, Table 13-4). -/
def answerPayload (ws : List LaneBits) (n : Nat) : List Byte := (ws.flatMap wordBytes).take n

/-- A tile packet that passes its check, judged for the two lengths the SLR finds on its own (03, R51). -/
def judgeTile (it : LaneItem) : Judged :=
  let count := (itemWord it 1).toNat
  if count = 0 ∨ 4096 < count ∨ it.data.length ≠ count + 3 then .badLength
  else .tile
    { frame := Fin.ofNat 16 (it.control >>> 8).toNat, segment := Fin.ofNat 4 it.control.toNat
      line := (itemWord it 0).toNat, count := count
      samples := ((itemContents it).drop 2).map (BitVec.setWidth 14) }

/-- A relay answer that passes its check, judged for length (03, R51; 12, R179). -/
def judgeAnswer (it : LaneItem) : Judged :=
  let n := (itemWord it 0).toNat
  if 32 < n ∨ it.data.length ≠ (n + 1) / 2 + 2 then .badLength
  else .answer (it.control.setWidth 8) (answerPayload ((itemContents it).drop 1) n)

/-- The SLR's judgement of an item: the check, then the length (03, R49 to R51; 12, R179). -/
def judgeItem (it : LaneItem) : Judged :=
  match kindCode it.control with
  | 0 => .idle
  | 1 => if checkPasses it 3 then judgeTile it else .badCheck false
  | 2 => if checkPasses it 2 && it.data.length == 2 then .status (itemWord it 0) else .badCheck true
  | 3 => if checkPasses it 2 then judgeAnswer it else .badCheck false
  | _ => .badCheck false

/-- A good idle word: a control word of kind code 0 received without a coding error (03, R44; log 22). -/
def goodIdle (w : LaneWord) : Bool := w.control && !w.codingError && kindCode w.bits == 0

/-! ## The fields of management tables (12, R180) -/

/-- The presence byte of a field. -/
def fieldPresence (f : Field) : Nat := (f >>> 56).toNat

/-- The 56-bit value of a field. -/
def fieldValue (f : Field) : Nat := (f.setWidth 56).toNat

/-- A field that holds a number: presence 1. -/
def fieldOfNat (n : Nat) : Field := (1#8 ++ BitVec.ofNat 56 n : BitVec 64)

/-- A field that holds a signed number, in two's complement. -/
def fieldOfInt (i : Int) : Field := (1#8 ++ BitVec.ofInt 56 i : BitVec 64)

/-- A field that holds two parts: the first in bytes 1 to 3, the second in bytes 4 to 7. -/
def fieldOfPair (a b : Nat) : Field := (1#8 ++ BitVec.ofNat 24 a ++ BitVec.ofNat 32 b : BitVec 64)

/-- A field whose value is absent: presence 0 and the rest 0. -/
def fieldAbsent : Field := 0#64

/-- A number, or absent. -/
def fieldOfOption : Option Nat → Field
  | none => fieldAbsent
  | some n => fieldOfNat n

/-- Field `i` of the body of a WRITE: 8 bytes per index, in index order (10, section 11.4). -/
def bodyField (body : List Byte) (i : Nat) : Field := BitVec.ofNat 64 (numberAt body (8 * i) 8)

/-- The indices a READ or a WRITE addresses (10, section 11.4). -/
def messageIndices (m : Message) : List Nat := (List.range m.count.toNat).map (m.index.toNat + ·)

/-- The fields a WRITE carries, each with its index. -/
def messageWrites (m : Message) : List (Nat × Field) :=
  (List.range m.count.toNat).map fun i => (m.index.toNat + i, bodyField m.body i)

/-- Byte `i` of a Tile Map entry place: 1 lane, 2 segment id, 3-4 width, 5 correction index, 6 Seam-with-next
(12, R180). -/
def placeByte (f : Field) (i : Nat) : Nat := (f >>> (8 * (7 - i))).toNat % 256

/-- The width of a Tile Map entry place. -/
def placeWidth (f : Field) : Nat := placeByte f 3 * 256 + placeByte f 4

/-- The entry place a field holds. -/
def placeOfField (f : Field) : Place :=
  { lane := Fin.ofNat 4 (placeByte f 1), segment := Fin.ofNat 4 (placeByte f 2), width := placeWidth f,
    correction := Fin.ofNat 16 (placeByte f 5), seam := placeByte f 6 == 1 }

/-- The field of an entry place (12, R180). -/
def fieldOfPlace (p : Place) : Field :=
  (1#8 ++ BitVec.ofNat 8 p.lane.val ++ BitVec.ofNat 8 p.segment.val ++ BitVec.ofNat 16 p.width ++
    BitVec.ofNat 8 p.correction.val ++ BitVec.ofNat 8 (boolCode p.seam) ++ 0#8 : BitVec 64)

end Sys2Proof.Machine
end

