-- ==== Sys2Proof/Machine/Formats.lean ====
section
/-! DEFINITION. The layouts of what the part sends: upstream messages and cells, the training block, downlink items
(12, Tables 13-2 to 13-7). -/

namespace Sys2Proof.Machine

/-- The 8 bytes of a field (12, R180). -/
def fieldBytes (f : Field) : List Byte := natToBytes 8 f.toNat

/-- The flags of an ALERT_NOTICE: bit j of byte 8 + k is flag 8k + j (12, Table 13-6). -/
def flagBytes (flags : BitVec 21) : List Byte :=
  [flags.setWidth 8, (flags >>> 8).setWidth 8, (flags >>> 16).setWidth 8]

/-- An upstream message as it stands in the payload of a MGMT cell (12, Table 13-6). -/
def UpMessage.bytes : UpMessage → List Byte
  | .readAnswer tag st table index count values =>
    [0x81, tag, BitVec.ofNat 8 st.code, table, index, count, 0, BitVec.ofNat 8 (8 * values.length)] ++
      values.flatMap fieldBytes
  | .writeAnswer tag st table index count => [0x82, tag, BitVec.ofNat 8 st.code, table, index, count, 0, 0]
  | .commandAnswer tag st code => [0x83, tag, BitVec.ofNat 8 st.code, code, 0, 0, 0, 0]
  | .relayAccept tag st lane reason =>
    [0x84, tag, BitVec.ofNat 8 st.code, lane, BitVec.ofNat 8 reason.code, 0, 0, 0]
  | .relayResult r =>
    [0x85, r.tag, 0, BitVec.ofNat 8 r.lane.val, BitVec.ofNat 8 r.outcome.code, BitVec.ofNat 8 r.retries, 0,
      BitVec.ofNat 8 r.payload.length] ++ r.payload
  | .alertNotice flags => [0x86, 0, 0, 0, 0, 0, 0, 3] ++ flagBytes flags

/-- The payload of a STATUS cell (12, Table 13-3). -/
def StatusCell.bytes (c : StatusCell) : List Byte :=
  [BitVec.ofNat 8 (boolCode c.probe.isSome), c.probe.getD 0, BitVec.ofNat 8 c.timing.code,
    BitVec.ofNat 8 c.profile.number, BitVec.ofNat 8 c.power.code,
    BitVec.ofNat 8 c.lanes[0].code, BitVec.ofNat 8 c.lanes[1].code,
    BitVec.ofNat 8 c.lanes[2].code, BitVec.ofNat 8 c.lanes[3].code,
    BitVec.ofNat 8 c.callCount.val, BitVec.ofNat 8 (boolCode c.summary), BitVec.ofNat 8 c.depth.bits,
    BitVec.ofNat 8 c.indication.code]

/-- The payload of an AUX cell: the count, then the bytes (12, section 13.2). -/
def auxPayload (bs : List Byte) : List Byte := natToBytes 2 bs.length ++ bs

/-- The 420-byte payload of a cell (12, section 13.2). -/
def UpCell.payload : UpCell → Payload
  | .fill => 0
  | .status c => bytesToPayload c.bytes
  | .video c => c.payload
  | .mgmt m => bytesToPayload m.bytes
  | .aux bs => bytesToPayload (auxPayload bs)

/-- The cell type codes (12, section 13.2). -/
def UpCell.typeCode : UpCell → Nat
  | .fill => 0
  | .status _ => 1
  | .video _ => 2
  | .mgmt _ => 3
  | .aux _ => 4

/-- Bytes 4 to 7 of a VIDEO cell header: the line descriptor in cell 0, else 0 (12, Table 13-2). -/
def descriptorBytes : Option Descriptor → List Byte
  | none => [0, 0, 0, 0]
  | some d =>
    [BitVec.ofNat 8 (d.depth.code * 64 + d.totalCells), BitVec.ofNat 8 (boolCode d.truncated * 128 + d.entryCount)] ++
      natToBytes 2 d.concealed.toNat

/-- The 8-byte header of a cell (12, Table 13-2). -/
def UpCell.header : UpCell → List Byte
  | .video c =>
    [BitVec.ofNat 8 (2 * 16 + c.frame.val)] ++ natToBytes 2 c.line ++ [BitVec.ofNat 8 c.index] ++
      descriptorBytes c.descriptor
  | c => [BitVec.ofNat 8 (c.typeCode * 16), 0, 0, 0, 0, 0, 0, 0]

/-- The 12 bytes of a training block that its CRC-32 covers (12, R178). -/
def trainingBlockBody (p : Profile) (probe : Option Byte) : List Byte :=
  [0x7E, 0x81, 0x7E, 0x81, BitVec.ofNat 8 p.number, BitVec.ofNat 8 (boolCode probe.isSome), probe.getD 0,
    0, 0, 0, 0, 0]

/-- The training block that begins in this state, or none: in TRAINING the transmitter repeats it without a break, with
the probe outstanding when the block begins (01, R4; 02, R23; 12, R178). -/
def State.trainingBlock (s : State) : Option (List Byte) :=
  if s.tle.link = .training then
    let body := trainingBlockBody s.tle.profile (s.rtu.probe.map Probe.id)
    some (body ++ natToBytes 4 (crc32 body).toNat)
  else none

/-- The payload words of a relay command: two bytes a word, the high byte first, an odd last low byte 0
(12, Table 13-4). -/
def payloadWords : List Byte → List LaneBits
  | [] => []
  | [b] => [(b ++ 0#8 : BitVec 16)]
  | a :: b :: rest => (a ++ b : BitVec 16) :: payloadWords rest

/-- The lane words of a downlink item before its CRC-16 (12, Table 13-4). -/
def DownItem.body : DownItem → List LaneBits
  | .frameStart g => [BitVec.ofNat 16 (4 * 4096 + g.val)]
  | .relayCommand tag payload =>
    [BitVec.ofNat 16 (5 * 4096 + tag.toNat), BitVec.ofNat 16 payload.length] ++ payloadWords payload

/-- The lane words of a downlink item, its CRC-16 last (12, R179). -/
def DownItem.words (d : DownItem) : List LaneBits := d.body ++ [crc16 d.body]

end Sys2Proof.Machine
end

