-- ==== Sys2Proof/Machine/Ops.lean ====
section
/-! DEFINITION. The operations several commands share: the degrade ladder, the link transitions, the commit and its
flip, the flush, the relay's results and the lane states. -/

namespace Sys2Proof.Machine

/-! ## Slot Schedule and Tile Map banks -/

/-- A Slot Schedule bank (01, R15). -/
def Tle.sched (t : Tle) : Bank → SlotBank
  | .a => t.schedA
  | .b => t.schedB

/-- Replace a Slot Schedule bank. -/
def Tle.setSched (bank : Bank) (x : SlotBank) (t : Tle) : Tle :=
  match bank with
  | .a => { t with schedA := x }
  | .b => { t with schedB := x }

/-- A Tile Map bank (04, R62). -/
def Las.map (l : Las) : Bank → TileBank
  | .a => l.mapA
  | .b => l.mapB

/-- Replace a Tile Map bank. -/
def Las.setMap (bank : Bank) (x : TileBank) (l : Las) : Las :=
  match bank with
  | .a => { l with mapA := x }
  | .b => { l with mapB := x }

/-- The map of a bank: its first Entry Count places, in place order (04, R62). -/
def TileBank.entries (t : TileBank) : List Place := t.places.toList.take t.count

/-- The total width of a list of entries (04, R62). -/
def totalWidth (es : List Place) : Nat := (es.map Place.width).sum

/-- Whether two entry places name the same (lane, segment id) pair, by which entries are identified (04, R62). -/
def Place.sameSegment (p q : Place) : Bool := p.lane == q.lane && p.segment == q.segment

/-- No two entries of the map have the same lane and the same segment id (04, R62). -/
def distinctSegments : List Place → Bool
  | [] => true
  | p :: rest => rest.all (fun q => !p.sameSegment q) && distinctSegments rest

/-- Every entry with Seam-with-next set, and the entry after it, are each at least 8 wide, and the last entry does not
have Seam-with-next set (04, R62). -/
def seamsValid : List Place → Bool
  | [] => true
  | [p] => !p.seam
  | p :: q :: rest => (!p.seam || (8 ≤ p.width && 8 ≤ q.width)) && seamsValid (q :: rest)

/-- A bank's map is valid (04, R62). -/
def mapValid (es : List Place) : Bool :=
  distinctSegments es && totalWidth es ≤ 8192 && seamsValid es

/-- The entry of slot `k`, 1 to 63 (01, R15). -/
def SlotBank.entry (b : SlotBank) (k : Nat) : SlotType := b.entries.toList.getD (k - 1) .fill

/-- The slots after slot 0 of a superframe of a Budget. -/
def laterSlots (budget : Nat) : List Nat := (List.range (budget - 1)).map (· + 1)

/-- Whether some entry with index below the Budget is MGMT (01, R14). -/
def SlotBank.hasMgmt (b : SlotBank) (budget : Nat) : Bool :=
  (laterSlots budget).any fun k => b.entry k == .mgmt

/-- The type slot `k` is sent as: its entry's, but for the management reserve at Budget - 1 (01, R14). -/
def SlotBank.sentType (b : SlotBank) (budget k : Nat) : SlotType :=
  if k = budget - 1 ∧ b.hasMgmt budget = false then .mgmt else b.entry k

/-- V: the VIDEO slots below the Budget, the management reserve not counted (01, R18). -/
def SlotBank.videoSlots (b : SlotBank) (budget : Nat) : Nat :=
  (laterSlots budget).countP fun k => b.sentType budget k == .video

/-- cells(Wd, d): the ceiling of Wd / spc(d) (01, R18). -/
def cellsFor (width : Nat) (d : Depth) : Nat := (width + d.perCell - 1) / d.perCell

/-! ## The degrade ladder (01, R18, R19) -/

/-- The result of the ladder for a Slot Schedule bank, a total width and a Budget (01, R18). -/
def ladder (b : SlotBank) (width budget : Nat) : Degrade :=
  let v := b.videoSlots budget
  match [Depth.d14, .d12, .d10].find? fun d => d.bits ≤ b.depth.bits && cellsFor width d ≤ v with
  | some d =>
    { depth := d, truncating := false, v := v,
      indication := if d.bits < b.depth.bits then .reduced else .none }
  | none => { depth := .d10, truncating := true, v := v, indication := .truncating }

/-- Whether replacing a degrade result raises DEGRADED (01, R19). -/
def degradedBy (old new : Degrade) : Bool :=
  new.indication != .none &&
    (old.indication == .none || new.depth.bits < old.depth.bits || (new.truncating && !old.truncating))

/-- The ladder's result under the active banks and the current profile. -/
def State.ladderNow (s : State) : Degrade :=
  ladder (s.tle.sched s.tle.active) (totalWidth (s.las.map s.las.active).entries) s.tle.profile.budget

/-- The ladder is recomputed (01, R19). -/
def recomputeLadder (s : State) : State :=
  let s' := s.mapTle fun t => { t with degrade := s.ladderNow }
  if degradedBy s.tle.degrade s.ladderNow then s'.raise .degraded else s'

/-! ## Link transitions (01, R3 to R9) -/

/-- The Departure Buffer is emptied, and the line counts on `c` if a cell was unsent (01, R9, R17). -/
def emptyBuffer (c : Counter) (s : State) : State :=
  if s.tle.buffer = [] then s else (s.mapTle fun t => { t with buffer := [] }).count c 1

/-- The upstream superframe in progress is no longer sent (01, R12). -/
def stopSuperframe (s : State) : State := s.mapTle fun t => { t with superframe := none }

/-- What leaving ONLINE does to the superframe and the Departure Buffer (01, R9). -/
def leaveOnline (s : State) : State :=
  if s.tle.link = .online then emptyBuffer .droppedLine (stopSuperframe s) else s

/-- The link takes a state; LINK_STATE is raised when it changes (01, R5). -/
def setLink (l : LinkState) (s : State) : State :=
  let s' := s.mapTle fun t => { t with link := l }
  if s.tle.link = l then s' else s'.raise .linkState

/-- A training attempt at a profile begins (01, R4). -/
def startAttempt (p : Profile) (s : State) : State :=
  s.mapTle fun t => { t with profile := p, goodRun := 0, attemptTimer := true }

/-- The link is in TRAINING with a new attempt at a profile, wherever it was (01, R3 to R8). -/
def enterTraining (p : Profile) (s : State) : State := startAttempt p (setLink .training (leaveOnline s))

/-- The link enters DOWN; the restart wait runs or not (01, R3, R4). -/
def enterDown (restart : Bool) (s : State) : State :=
  (setLink .down (leaveOnline s)).mapTle fun t => { t with attemptTimer := false, restartWait := restart }

/-- The attempt succeeds and the link enters ONLINE at its profile (01, R5). -/
def enterOnline (s : State) : State :=
  let s := (setLink .online s).mapTle fun t => { t with attemptTimer := false, badRun := 0 }
  let s := if s.tle.profile.number < s.tle.cap.number then s.raise .profileDrop else s
  recomputeLadder s

/-! ## Measurement abort and seam records (06, R109, R111, R116) -/

/-- A RUNNING measurement run is aborted with a cause (06, R108, R109). -/
def abortRun (c : AbortCause) (s : State) : State :=
  if s.ldu.run.state = .running then
    (s.mapLdu fun l => { l with run := { l.run with state := .aborted, cause := c } }).raise .measureDone
  else s

/-- A seam record formed afresh (06, R111). -/
def freshSeam (left : Nat) : SeamRecord :=
  { left := left, isOpen := false, sumDiff := 0, lines := 0, run := 0, lastD := none }

/-- One fresh record for each seam of a map whose first entry stands at position `at` (06, R111). -/
def seamsFrom (pos : Nat) : List Place → List SeamRecord
  | p :: q :: rest => if p.seam then freshSeam pos :: seamsFrom (pos + 1) (q :: rest) else seamsFrom (pos + 1) (q :: rest)
  | _ => []

/-- The seam records are formed afresh from the active map (06, R116). -/
def formSeams (s : State) : State :=
  s.mapLdu fun l => { l with seams := seamsFrom 1 (s.las.map s.las.active).entries }

/-- SumDiff and Lines of every seam record are set to 0 (06, R116). -/
def clearSeamSums (s : State) : State :=
  s.mapLdu fun l => { l with seams := l.seams.map fun r => { r with sumDiff := 0, lines := 0 } }

/-- Every valid mark of the Held Copy is cleared (05, R87). -/
def invalidateHeld (s : State) : State :=
  s.mapLdu fun l => { l with held := Vector.ofFn fun i => { l.held[i] with valid := false } }

/-! ## The commit (04, R77 to R82) -/

/-- The flip (04, R78; 01, R16): the active Tile Map bank becomes the target, the Slot Schedule flips, the ladder is
recomputed, the Held Copy is invalidated, a running measurement is aborted with MAP_CHANGED, the seam records are
formed afresh, the flip mark is set. -/
def makeFlip (s : State) : State :=
  let s := s.mapLas fun l => { l with active := l.target.getD l.active.other, flipMark := true }
  let s := s.mapTle fun t => { t with active := t.active.other }
  formSeams (abortRun .mapChanged (invalidateHeld (recomputeLadder s)))

/-- The commit is DRAINING, flipped, and no record in use carries the old bank's stamp (04, R79). -/
def Las.commitDone (l : Las) : Bool :=
  l.commit == .draining && l.flipMark &&
    match l.target with
    | some t => l.records.all fun r => r.stamp != t.other
    | none => false

/-- The completion of a commit to bank `t` (04, R79): both old banks become copies of the target banks. -/
def finishCommit (t : Bank) (s : State) : State :=
  let s := s.mapLas fun l =>
    { l.setMap t.other (l.map t) with commit := .none, target := none, switchFrame := none, flipMark := false }
  (s.mapTle fun x => x.setSched t.other (x.sched t)).raise .commitDone

/-- The completion test, made at the flip and at each freeing of a record (04, R79). -/
def tryComplete (s : State) : State :=
  if s.las.commitDone then finishCommit (s.las.target.getD .a) s else s

/-- A DRAINING commit completes at once, its flip made first if the flip mark is clear (04, R81, R82). The records
have been freed before. -/
def completeNow (s : State) : State :=
  if s.las.commit = .draining then tryComplete (if s.las.flipMark then s else makeFlip s) else s

/-- Both banks of the frame bank pair become the active Tile Map bank (04, R81, R82). -/
def resetBankPair (s : State) : State :=
  s.mapLas fun l => { l with currentBank := l.active, triggeredBank := l.active }

/-- Every record in use is freed (04, R82). -/
def freeRecords (s : State) : State := s.mapLas fun l => { l with records := [] }

/-- A flush (02, R38; 04, R81, R82; 05, R101; 06, R109, R116). -/
def flush (s : State) : State :=
  let s := freeRecords (s.count .droppedLine s.las.records.length)
  let s := stopSuperframe (emptyBuffer .droppedLine s)
  resetBankPair (completeNow (clearSeamSums (abortRun .flush s)))

/-! ## The tally outputs (09, R155) -/

/-- The RTU hands a tally state to the ACU, which drives the two outputs from it (09, R155). -/
def handTally (t : Tally) (s : State) : State :=
  s.mapAcu fun a => { a with tally := t, red := t == .onAir, green := t == .preview }

/-! ## Relay results (07, R121, R126 to R128) -/

/-- Whether a request is DECIDED. -/
def Request.decided (r : Request) : Bool :=
  match r.status with
  | .decided _ => true
  | _ => false

/-- The outcome of a request; DISCARDED stands in where it has none. -/
def Request.outcome (r : Request) : RelayOutcome :=
  match r.status with
  | .decided o => o
  | _ => .discarded

/-- The Relay Result of a DECIDED request of a lane (07, R127). -/
def Request.result (i : Fin 4) (r : Request) : RelayResult :=
  { tag := r.tag, lane := i, outcome := r.outcome, retries := r.retries,
    payload := if r.outcome = .done then r.answer else [] }

/-- The result at the head of a lane's queue moves, when the held-result place is empty and the head is DECIDED: into
Egress if it has room, else into the held-result place (07, R127). -/
def moveResult (i : Fin 4) (s : State) : State :=
  match s.bcr[i].held, s.bcr[i].queue with
  | none, r :: rest =>
    if r.decided then
      if s.lma.room then
        (s.mapRelay i fun l => { l with queue := rest }).mapLma (Lma.place (.relayResult (r.result i)))
      else s.mapRelay i fun l => { l with queue := rest, held := some (r.result i) }
    else s
  | _, _ => s

/-- The move is repeated while its conditions hold, at most once for each request of the queue (07, R127). -/
def moveResults (i : Fin 4) : Nat → State → State
  | 0, s => s
  | n + 1, s => moveResults i n (moveResult i s)

/-- A lane puts its head request in flight when it is UP, has none in flight, holds no result and its head is WAITING
(07, R121). -/
def putInFlight (i : Fin 4) (s : State) : State :=
  match s.bcr[i].queue with
  | r :: rest =>
    if s.slr.lanes[i].state = .up ∧ s.bcr[i].held = none ∧ r.status = .waiting ∧
        rest.all (fun q => q.status != .inFlight) = true then
      (s.mapRelay i fun l =>
        { l with queue := { r with status := .inFlight, retries := 0 } :: rest, timer := true }).emit
          (.downlink i (.relayCommand r.tag r.payload))
    else s
  | [] => s

/-- Whether a lane has a DECIDED request at the head of its queue. -/
def RelayLane.headDecided (l : RelayLane) : Bool :=
  match l.queue with
  | r :: _ => r.decided
  | [] => false

/-- A lane delivers its results, oldest first, and then sends the next command if it may (07, R127, R121). -/
def deliverLane (i : Fin 4) (s : State) : State :=
  if s.bcr[i].headDecided then putInFlight i (moveResults i s.bcr[i].queue.length s) else s

/-- The lanes in rotation, starting with the lane after the one the lane rotation names (10, R163). -/
def rotationOrder (r : Fin 4) : List (Fin 4) := [r + 1, r + 2, r + 3, r]

/-- Every lane delivers the results it has, in rotation (10, R163). -/
def deliverLanes (s : State) : State :=
  (rotationOrder s.lma.rotation).foldl (fun s i => deliverLane i s) s

/-- The end of an event that may decide relay requests: the notice first, then the lanes in rotation (10, R163). -/
def settle (before : BitVec 21) (s : State) : State := deliverLanes (s.placeNotice before)

/-- One event that may decide relay requests. -/
def relayEvent (effect : State → State) (s : State) : State := settle s.lma.flags (effect s)

/-- The discard of a lane's requests: the IN_FLIGHT one and every WAITING one become DECIDED with DISCARDED, and the
answer timer stops (07, R126). The results are delivered at the end of the event. -/
def discardLane (i : Fin 4) (s : State) : State :=
  s.mapRelay i fun l =>
    { l with queue := l.queue.map fun r => if r.decided then r else { r with status := .decided .discarded },
             timer := false }

/-! ## Lane states (03, R42 to R47) -/

/-- What each change of lane state does to the lane's error count and watch (03, R42). -/
def Lane.enter (st : LaneState) (l : Lane) : Lane :=
  { l with state := st, errCount := 0, candidate := none, staleCount := 0, stale := false }

/-- A lane leaving UP reports to the BCR and cuts off what is being sent (03, R47). -/
def leaveUp (i : Fin 4) (s : State) : State :=
  if s.slr.lanes[i].state = .up then (discardLane i s).emit (.cutOff i) else s

/-- A lane takes another state (03, R42, R47); the same state again is no change. -/
def changeLane (i : Fin 4) (st : LaneState) (s : State) : State :=
  if s.slr.lanes[i].state = st then s
  else ((leaveUp i s).mapLane i (Lane.enter st)).raise .laneState

/-- Alignment begins (03, R44). -/
def beginAlignment (i : Fin 4) (s : State) : State :=
  s.mapLane i fun l => { l with idleRun := 0, alignTimer := true }

/-- The supply event GOOD of a lane (03, R43). -/
def laneSupplyGood (i : Fin 4) (s : State) : State :=
  let s' := s.mapLane i fun l => { l with supplyGood := true }
  if s.slr.lanes[i].state = .off then beginAlignment i (changeLane i .aligning s') else s'

/-- The supply event NOT_GOOD of a lane (03, R43). -/
def laneSupplyLost (i : Fin 4) (s : State) : State :=
  changeLane i .off (s.mapLane i fun l => { l with supplyGood := false, alignTimer := false })

end Sys2Proof.Machine
end

