-- ==== Sys2Proof/Machine/Departure.lean ====
section
/-! DEFINITION. The departure: concealment, correction, requantization, packing, black measurement and seam watch
(05, 06). -/

namespace Sys2Proof.Machine

/-! ## Correction and requantization (05, R92, R93) -/

/-- The corrected sample of a raw sample: floor((x - B) * G + 8192, 16384) + P, clamped to 0-16383 (05, R92). -/
def correct (c : Correction) (x : Sample) : Nat :=
  let d : Int := (x.toNat : Int) - c.black.toNat
  let p : Int := d * c.gain.toNat
  let q : Int := (p + 8192) / 16384
  let r : Int := q + c.pedestal.toNat
  if r < 0 then 0 else if 16383 < r then 16383 else r.toNat

/-- The output sample of a corrected sample at a depth (05, R93). -/
def requantize : Depth → Nat → Nat
  | .d14, r => r
  | .d12, r => min 4095 ((r + 2) / 4)
  | .d10, r => min 1023 ((r + 8) / 16)

/-! ## Sources (05, R87, R88) -/

/-- The Held Copy place of a (lane, segment id) pair (05, R87). -/
def heldIndex (lane segment : Fin 4) : Fin 16 := Fin.ofNat 16 (4 * lane.val + segment.val)

/-- What stands for one entry of the map at a departure (05, R88): the raw samples of the record or of the Held Copy,
or the pedestal. -/
inductive Source where
  | record (samples : List Sample)
  | held (samples : List Sample)
  | pedestal
deriving DecidableEq, Repr

/-- The samples a record holds for an entry, if the entry is present (04, R64). -/
def presentSamples (present : List Segment) (p : Place) : Option (List Sample) :=
  (present.find? fun s => s.lane == p.lane && s.segment == p.segment).map Segment.samples

/-- The source of an entry (05, R88). -/
def sourceOf (present : List Segment) (held : Vector HeldPlace 16) (p : Place) : Source :=
  match presentSamples present p with
  | some xs => .record xs
  | none =>
    let h := held[heldIndex p.lane p.segment]
    if h.valid = true ∧ h.width = p.width then .held h.samples else .pedestal

/-- The corrected samples of an entry (05, R88, R92). -/
def correctedOf (table : Vector Correction 16) (p : Place) : Source → List Nat
  | .record xs => xs.map (correct table[p.correction])
  | .held xs => xs.map (correct table[p.correction])
  | .pedestal => List.replicate p.width table[p.correction].pedestal.toNat

/-- Whether a source conceals its entry (05, R88). -/
def Source.conceals : Source → Bool
  | .record _ => false
  | _ => true

/-- One entry of the departing line: its place, its source and its corrected samples. -/
structure Departing where
  place     : Place
  source    : Source
  corrected : List Nat
deriving DecidableEq, Repr

/-- The entries of a departing line, in map order (05, R84). -/
def departingEntries (l : Ldu) (es : List Place) (present : List Segment) : List Departing :=
  es.map fun p =>
    let src := sourceOf present l.held p
    { place := p, source := src, corrected := correctedOf l.correction p src }

/-- The number of concealed entries (05, R89). -/
def concealedCount (ds : List Departing) : Nat := ds.countP fun d => d.source.conceals

/-- The concealed-entry set: bit k - 1 marks map position k (05, R89, R96). -/
def concealedSet : List Departing → BitVec 16
  | [] => 0
  | d :: rest => (concealedSet rest <<< 1) ||| (if d.source.conceals then 1#16 else 0#16)

/-- Saving into the Held Copy: each present entry's place receives its width and its raw samples (05, R87). -/
def saveHeld (held : Vector HeldPlace 16) (ds : List Departing) : Vector HeldPlace 16 :=
  ds.foldl (fun h d =>
    match d.source with
    | .record xs => h.set (heldIndex d.place.lane d.place.segment) { valid := true, width := d.place.width, samples := xs }
    | _ => h) held

/-! ## Packing (05, R94 to R97) -/

/-- The samples of a row cut into runs of `n`, at most `k` of them (05, R95). -/
def chunks (n : Nat) : Nat → List Nat → List (List Nat)
  | 0, _ => []
  | k + 1, xs => xs.take n :: chunks n k (xs.drop n)

/-- The payload of a cell: each sample most significant bit first, from the first bit on, the rest 0 (05, R95). -/
def packPayload (e : Depth) (zs : List Nat) : Payload :=
  BitVec.ofNat 3360 (zs.foldl (fun n z => n * 2 ^ e.bits + z) 0 <<< (3360 - zs.length * e.bits))

/-- The output row of a line: the requantized samples of its entries in map order (05, R94). -/
def outputRow (e : Depth) (ds : List Departing) : List Nat :=
  (ds.flatMap Departing.corrected).map (requantize e)

/-- The number of cells of a departed line: V when the result truncates, else cells(Wd, e) (05, R94, R97). -/
def lineCells (g : Degrade) (width : Nat) : Nat := if g.truncating then g.v else cellsFor width g.depth

/-- The cells of a departed line, cell 0 first (05, R95, R96). A truncating result cuts the row after V × 336 samples,
which are V cells. -/
def lineCellList (g : Degrade) (frame : Fin 16) (line : Nat) (ds : List Departing) : List VideoCell :=
  let row := outputRow g.depth ds
  let total := lineCells g row.length
  let desc : Descriptor :=
    { frame := frame, line := line, depth := g.depth, entryCount := ds.length, concealed := concealedSet ds,
      truncated := g.truncating, totalCells := total }
  ((chunks g.depth.perCell total row).map (packPayload g.depth)).zipIdx.map fun (x : Payload × Nat) =>
    { frame := frame, line := line, index := x.2, descriptor := if x.2 = 0 then some desc else none, payload := x.1 }

/-! ## The measurement run (06, R105 to R107) -/

/-- The raw samples of an entry whose source is the record (05, R98). -/
def Source.fresh : Source → Option (List Sample)
  | .record xs => some xs
  | _ => none

/-- The samples of the present entries added to the accumulators of their correction indices (06, R105). -/
def addSamples (acc : Vector Accumulator 16) (ds : List Departing) : Vector Accumulator 16 :=
  ds.foldl (fun a d =>
    match d.source.fresh with
    | some xs =>
      a.set d.place.correction
        { sum := a[d.place.correction].sum + (xs.map BitVec.toNat).sum,
          count := a[d.place.correction].count + d.place.width }
    | none => a) acc

/-- The result of one index: the mean rounded to nearest, clamped to 4095, or absent (06, R106). -/
def resultOf (a : Accumulator) : Option (BitVec 12) :=
  if a.count = 0 then none
  else some (BitVec.ofNat 12 (min 4095 ((a.sum + a.count / 2) / a.count)))

/-- The present results written into the field B of their Correction Table entries (06, R107). -/
def applyResults (rs : Vector (Option (BitVec 12)) 16) (t : Vector Correction 16) : Vector Correction 16 :=
  Vector.ofFn fun i => match rs[i] with
    | some b => { t[i] with black := b }
    | none => t[i]

/-- A RUNNING run completes (06, R106, R107): the results are computed and, when apply was requested, written. -/
def completeRun (s : State) : State :=
  (s.mapLdu fun l =>
    let rs : Vector (Option (BitVec 12)) 16 := Vector.ofFn fun i => resultOf l.run.acc[i]
    { l with run := { l.run with state := .complete, results := rs, applied := l.run.applied || l.run.apply },
             correction := if l.run.apply then applyResults rs l.correction else l.correction }).raise .measureDone

/-- The run is due to complete: RUNNING with its line count at N (06, R106). -/
def MeasureRun.due (r : MeasureRun) : Bool := r.state == .running && r.n ≤ r.lines

/-- A departure adds to a RUNNING run, and completes it when the line count reaches N (06, R105, R106). -/
def feedRun (ds : List Departing) (s : State) : State :=
  if s.ldu.run.state = .running then
    let s := s.mapLdu fun l =>
      { l with run := { l.run with acc := addSamples l.run.acc ds, lines := l.run.lines + 1 } }
    if s.ldu.run.due then completeRun s else s
  else s

/-! ## The seam watch (06, R112 to R114) -/

/-- The sum of at most 8 samples, divided by 8 (06, R112). -/
def eighth (xs : List Nat) : Nat := xs.sum / 8

/-- What a departed line does to one seam record (06, R112): the entries at its left position and the next. -/
def feedSeam (ds : List Departing) (r : SeamRecord) : SeamRecord :=
  match ds[r.left - 1]?, ds[r.left]? with
  | some p, some q =>
    if p.source.conceals || q.source.conceals then r
    else
      let left := eighth (p.corrected.drop (p.corrected.length - 8))
      let right := eighth (q.corrected.take 8)
      { r with sumDiff := r.sumDiff + ((left : Int) - right), lines := r.lines + 1 }
  | _, _ => r

/-- A departed line feeds every seam record (06, R112). -/
def feedSeams (ds : List Departing) (s : State) : State :=
  s.mapLdu fun l => { l with seams := l.seams.map (feedSeam ds) }

/-- Whether a frame with average `d` counts for a record (06, R114). -/
def seamCounts (g : SeamSettings) (isOpen : Bool) (d : Int) : Bool :=
  if isOpen then (d.natAbs : Int) ≤ (g.threshold : Int) - g.hysteresis
  else (g.threshold : Int) + g.hysteresis ≤ d.natAbs

/-- The seam decision of one record at the frame end, and whether its state changed (06, R114). -/
def decideSeam (g : SeamSettings) (r : SeamRecord) : SeamRecord × Bool :=
  if r.lines = 0 then ({ r with sumDiff := 0, lines := 0 }, false)
  else
    let d : Int := (r.sumDiff + (r.lines / 2 : Nat)) / (r.lines : Int)
    let r' := { r with sumDiff := 0, lines := 0, lastD := some d }
    if seamCounts g r.isOpen d then
      if g.queue ≤ r.run + 1 then ({ r' with isOpen := !r.isOpen, run := 0 }, true)
      else ({ r' with run := r.run + 1 }, false)
    else ({ r' with run := 0 }, false)

/-- The seam decision at the frame end (06, R113, R114). -/
def decideSeams (s : State) : State :=
  let ds := s.ldu.seams.map (decideSeam s.slr.seam)
  let s := s.mapLdu fun l => { l with seams := ds.map Prod.fst }
  if ds.any Prod.snd then s.raise .seam else s

/-! ## The departure (05, R84) -/

/-- What a departure counts and raises for its concealed entries (05, R89). -/
def reportConcealment (ds : List Departing) (s : State) : State :=
  if concealedCount ds = 0 then s
  else (s.count .concealedSegment (concealedCount ds)).raise .concealment

/-- The packing of a departure (05, R86, R94 to R97, R99): its cells fill the Departure Buffer; one made with a
truncation limit counts one TRUNCATED_LINE. An empty map places nothing and counts nothing. -/
def packLine (frame : Fin 16) (line : Nat) (ds : List Departing) (s : State) : State :=
  if ds = [] then s
  else
    let s' := s.mapTle fun t => { t with buffer := lineCellList t.degrade frame line ds }
    if s.tle.degrade.truncating then s'.count .truncatedLine 1 else s'

/-- The departure of a line (05, R84): the bank that applies and the presence set of its record, empty for a line that
has none. -/
def departLine (frame : Fin 16) (line : Nat) (bank : Bank) (present : List Segment) (s : State) : State :=
  let ds := departingEntries s.ldu (s.las.map bank).entries present
  let s := packLine frame line ds (reportConcealment ds s)
  let s := s.mapLdu fun l => { l with held := saveHeld l.held ds }
  feedRun ds (feedSeams ds s)

end Sys2Proof.Machine
end

