-- ==== Sys2Proof/Machine/Ticks.lean ====
section
/-! DEFINITION. The head line tick (02, R23, R25, R32, R39; 01, R12, R13; 04, R70 to R72, R76 to R78; 03, R57). -/

namespace Sys2Proof.Machine

/-! ## Probes (02, R23, R25) -/

/-- The age at which an outstanding probe is abandoned (02, R25). -/
def probeLimit : Nat := 64

/-- A new probe is issued at a time: the next id, age 0 (02, R23). -/
def issueProbe (now : Nat) (s : State) : State :=
  s.mapRtu fun r =>
    { r with lastProbeId := r.lastProbeId + 1, probe := some { id := r.lastProbeId + 1, sent := now, age := 0 } }

/-- The outstanding probe is abandoned: PROBE_MISS is counted, the abandonment run rises to at most 255, and
PROBE_LOST is raised when it reaches 8 (02, R25). -/
def abandonProbe (s : State) : State :=
  let s' := (s.mapRtu fun r => { r with probe := none, abandonRun := min 255 (r.abandonRun + 1) }).count .probeMiss 1
  if s.rtu.abandonRun + 1 = 8 then s'.raise .probeLost else s'

/-- The age of an outstanding probe rises by 1; at 64 it is abandoned (02, R25). -/
def ageProbe (s : State) : State :=
  match s.rtu.probe with
  | none => s
  | some p =>
    let s' := s.mapRtu fun r => { r with probe := some { p with age := p.age + 1 } }
    if probeLimit ≤ p.age + 1 then abandonProbe s' else s'

/-- The probe work of a tick (02, R23, R25): a tick 0 that starts a superframe issues a probe when none is outstanding;
an outstanding one ages. A probe issued at this tick is not aged by it, which is the model's choice (log 28). Whether
its abandonment at this tick lets a new one out at once is open (log 13). -/
def tickProbe (now : Nat) (mayIssue : Bool) (s : State) : State :=
  match s.rtu.probe with
  | none => if mayIssue then issueProbe now s else s
  | some _ =>
    let s' := ageProbe s
    if s'.rtu.probe = none ∧ mayIssue = true ∧ Config.reissueAtAbandonTick = true then issueProbe now s' else s'

/-- The id a STATUS cell carries: that of a probe issued at its tick (01, R13). -/
def newProbe (old new : Rtu) : Option Byte :=
  if new.lastProbeId = old.lastProbeId then none else some new.lastProbeId

/-! ## Trigger ticks (02, R39; 04, R76, R77) -/

/-- The frame a tick triggers, if it is a trigger tick (02, R39). -/
def triggerOf (t : TimingSettings) (l : Label) : Option (Fin 16) :=
  if t.lead = 0 then (if l.num = 0 then some l.frame else none)
  else if l.num + t.lead = t.total then some (l.frame + 1) else none

/-- Frame Start for frame `g` is handed to a lane that is UP (02, R39; 03, R48). -/
def sendFrameStart (g : Fin 16) (i : Fin 4) (s : State) : State :=
  if s.slr.lanes[i].state = .up then s.emit (.downlink i (.frameStart g)) else s

/-- The LAS sets the triggered-frame bank and resolves the commit at a trigger tick (04, R77). -/
def resolveCommit (g : Fin 16) (l : Las) : Las :=
  match l.commit with
  | .none => { l with triggeredBank := l.active }
  | .pending => { l with triggeredBank := l.target.getD l.active, commit := .draining, switchFrame := some g }
  | .draining => { l with triggeredBank := l.target.getD l.active }

/-- The trigger tick for frame `g` (02, R39). -/
def triggerFrame (g : Fin 16) (s : State) : State :=
  let s := sendFrameStart g 3 (sendFrameStart g 2 (sendFrameStart g 1 (sendFrameStart g 0 s)))
  (s.mapRtu fun r => { r with triggered := some g }).mapLas (resolveCommit g)

/-- The test for Frame Start at a tick (02, R39). -/
def testTrigger (l : Label) (s : State) : State :=
  match triggerOf s.rtu.settings l with
  | some g => triggerFrame g s
  | none => s

/-- The current-frame bank at a tick that begins a frame or follows an absent counter (04, R76). -/
def takeFrameBank (old : Option Label) (l : Label) (s : State) : State :=
  if old.map Label.frame = some l.frame then s
  else s.mapLas fun x =>
    { x with currentBank := if s.rtu.triggered = some l.frame then x.triggeredBank else x.active }

/-! ## The flip and the upstream superframe at a tick (04, R78; 01, R12, R13, R17) -/

/-- The flip is due at the tick labelled (switch frame, Latency) (04, R78). -/
def flipDue (s : State) (l : Label) : Bool :=
  s.las.commit == .draining && !s.las.flipMark && s.las.switchFrame == some l.frame &&
    l.num == s.rtu.settings.latency

/-- The flip at its tick, with the completion test that follows it (04, R78, R79). -/
def flipAtTick (l : Label) (s : State) : State := if flipDue s l then tryComplete (makeFlip s) else s

/-- A superframe ends: the cells of its line still in the buffer are discarded and the line counts one TRUNCATED_LINE
(01, R17). -/
def endSuperframe (s : State) : State := emptyBuffer .truncatedLine (stopSuperframe s)

/-- The timing states in which upstream superframes are sent (01, R12). -/
def TimingState.ticking (t : TimingState) : Bool := t == .locked || t == .holdover

/-- Whether a tick starts an upstream superframe (01, R12). -/
def State.mayTransmit (s : State) : Bool := s.tle.link == .online && s.rtu.timing.ticking

/-- The STATUS cell (01, R13), given the flags at the start of slot 0. -/
def statusCell (probe : Option Byte) (summary : Bool) (s : State) : StatusCell :=
  { probe := probe, timing := s.rtu.timing, profile := s.tle.profile, power := s.bss.power
    lanes := Vector.ofFn fun i => s.slr.lanes[i].state
    callCount := s.acu.callCount, summary := summary, depth := s.tle.degrade.depth
    indication := s.tle.degrade.indication }

/-- Slot `n` begins and carries a cell (01, R12). -/
def beginSlot (bank : Bank) (n : Nat) (c : UpCell) (s : State) : State :=
  (s.mapTle fun t => { t with superframe := some { bank := bank, slot := n, cell := c } }).emit (.slot n c)

/-- An upstream superframe starts with its STATUS cell (01, R12, R13). -/
def startSuperframe (probe : Option Byte) (summary : Bool) (s : State) : State :=
  if s.mayTransmit then beginSlot s.tle.active 0 (.status (statusCell probe summary s)) s else s

/-! ## The departure event (04, R70 to R72) -/

/-- The line due at a tick: its frame and its line number (04, R70). -/
def dueLine (t : TimingSettings) (l : Label) : Fin 16 × Nat :=
  if t.latency ≤ l.num then (l.frame, l.num - t.latency) else (l.frame - 1, t.total + l.num - t.latency)

/-- The record in use for a line (04, R64). -/
def Las.recordOf (l : Las) (frame : Fin 16) (line : Nat) : Option LineRecord :=
  l.records.find? fun r => r.frame == frame && r.line == line

/-- The record of a line is freed (04, R71, R72), with the completion test (04, R79). -/
def freeRecord (frame : Fin 16) (line : Nat) (s : State) : State :=
  tryComplete (s.mapLas fun l =>
    { l with records := l.records.filter fun r => !(r.frame == frame && r.line == line) })

/-- The departure event of an active line: departed while ONLINE, else dropped (04, R71, R72). -/
def departureEvent (frame : Fin 16) (line : Nat) (s : State) : State :=
  let rec? := s.las.recordOf frame line
  if s.tle.link = .online then
    freeRecord frame line
      (departLine frame line ((rec?.map LineRecord.stamp).getD s.las.currentBank)
        ((rec?.map LineRecord.present).getD []) s)
  else (freeRecord frame line s).count .droppedLine 1

/-- The departure event at a tick, none for a blanking line (04, R70). -/
def tickDeparture (l : Label) (s : State) : State :=
  let due := dueLine s.rtu.settings l
  if due.2 < s.rtu.settings.active then departureEvent due.1 due.2 s else s

/-- The frame end is the tick with number Active - 1 + Latency (06, R113). -/
def tickSeams (l : Label) (s : State) : State :=
  if l.num + 1 = s.rtu.settings.active + s.rtu.settings.latency then decideSeams s else s

/-! ## The stale watch (03, R57) -/

/-- A lane's stale count has reached twice Total Lines and no stale episode runs (03, R57). -/
def Lane.staleDue (total : Nat) (l : Lane) : Bool := l.state == .up && !l.stale && 2 * total ≤ l.staleCount

/-- A stale episode begins (03, R57). -/
def beginStale (i : Fin 4) (s : State) : State :=
  (s.mapLane i fun l => { l with stale := true }).raise .statusStale

/-- A tick raises the stale count of an UP lane, to at most 9000, and may begin a stale episode (03, R57). -/
def tickStale (i : Fin 4) (s : State) : State :=
  if s.slr.lanes[i].state = .up then
    let s' := s.mapLane i fun l => { l with staleCount := min 9000 (l.staleCount + 1) }
    if s'.slr.lanes[i].staleDue s.rtu.settings.total then beginStale i s' else s'
  else s

/-! ## The tick -/

/-- Everything a tick brings about from its slot 0 on, once the counter, the trigger, the old superframe's end and the
flip are done (02, R32; log 12). -/
def tickFromSlot0 (now : Nat) (l : Label) (s : State) : State :=
  let s' := tickProbe now (l.num == 0 && s.mayTransmit) s
  let s' := startSuperframe (newProbe s.rtu s'.rtu) s.lma.summary s'
  let s' := tickSeams l (tickDeparture l s')
  tickStale 3 (tickStale 2 (tickStale 1 (tickStale 0 s')))

/-- A head line tick is emitted at a time (02, R32; the order of its actions: log 12). -/
def emitTick (now : Nat) (l : Label) (s : State) : State :=
  let old := s.rtu.head
  let s := s.mapRtu fun r => { r with head := some l }
  let s := takeFrameBank old l (testTrigger l s)
  tickFromSlot0 now l (flipAtTick l (endSuperframe s))

/-- Every tick still waiting is emitted, in the order scheduled (02, R32). -/
def emitAll (now : Nat) (s : State) : State :=
  s.rtu.ticks.foldl (fun s t => emitTick now t.label s) (s.mapRtu fun r => { r with ticks := [] })

/-- A tick is scheduled; a tick still waiting for a time not earlier is emitted now, with those before it (02, R32). -/
def scheduleTick (now : Nat) (t : Tick) (s : State) : State :=
  let s := if s.rtu.ticks.any fun w => t.time ≤ w.time then emitAll now s else s
  s.mapRtu fun r => { r with ticks := r.ticks ++ [t], lastTick := some t }

/-- The label one line on (02, R34). -/
def nextLabel (total : Nat) (l : Label) : Label :=
  if l.num + 1 = total then { frame := l.frame + 1, num := 0 } else { frame := l.frame, num := l.num + 1 }

/-- A holdover tick is scheduled Lp after the last tick scheduled; a time already past is emitted at once
(02, R34, R35). -/
def scheduleHoldover (now lp : Nat) (last : Tick) (s : State) : State :=
  let t : Tick := { label := nextLabel s.rtu.settings.total last.label, time := last.time + lp }
  let s := scheduleTick now t s
  if t.time < now then emitAll now s else s

end Sys2Proof.Machine
end

