-- ==== Sys2Proof/Machine/Lanes.lean ====
section
/-! DEFINITION. The uplink of a sensor lane: alignment, packet judgement, the acceptance test of the Line Assembly
Store, the status watch and relay answers (03; 04, R65 to R69; 07, R122, R123, R125). -/

namespace Sys2Proof.Machine

/-! ## The acceptance test (04, R65 to R69) -/

/-- The number of line records (04, R64). -/
def recordCount : Nat := 16

/-- What the acceptance test makes of a tile packet (04, Table 5-1). -/
inductive Acceptance where
  /-- the samples are stored, in a record stamped with this bank -/
  | stored (bank : Bank)
  | badLength
  /-- the packet is discarded and counts on a counter of its own -/
  | discarded (c : Counter)
deriving DecidableEq, Repr

/-- The distance from the current tick to the departure of line (f, n), on the cycle of 16 × Total positions
(04, R66). -/
def departureDistance (t : TimingSettings) (head : Label) (f : Fin 16) (n : Nat) : Nat :=
  let k := 16 * t.total
  let a := (f.val * t.total + n + t.latency) % k
  let c := (head.frame.val * t.total + head.num) % k
  (a + k - c) % k

/-- The bank that applies to a packet of line (f, n) (04, R67, R76). -/
def Las.bankFor (l : Las) (triggered : Option (Fin 16)) (f : Fin 16) (n : Nat) : Bank :=
  match l.recordOf f n with
  | some r => r.stamp
  | none => if triggered = some f then l.triggeredBank else l.currentBank

/-- Whether a line's record holds the segment already (04, R68). -/
def Las.holds (l : Las) (f : Fin 16) (n : Nat) (lane segment : Fin 4) : Bool :=
  match l.recordOf f n with
  | some r => r.present.any fun x => x.lane == lane && x.segment == segment
  | none => false

/-- Steps 4 to 7 of the acceptance test under the bank that applies (04, R67, R68). -/
def acceptUnder (bank : Bank) (i : Fin 4) (p : TilePacket) (l : Las) : Acceptance :=
  match (l.map bank).entries.find? fun e => e.lane == i && e.segment == p.segment with
  | none => .discarded .unknownSegment
  | some e =>
    if p.count ≠ e.width then .badLength
    else if l.holds p.frame p.line i p.segment then .discarded .duplicate
    else .stored bank

/-- Step 3 of the acceptance test (04, R66). -/
def windowOutcome (total delta : Nat) : Option Counter :=
  if delta = 0 then some .late
  else if delta ≤ 16 then none
  else if delta ≤ 8 * total then some .early
  else some .late

/-- The acceptance test (04, R65 to R68). -/
def acceptance (i : Fin 4) (p : TilePacket) (s : State) : Acceptance :=
  if s.rtu.settings.active ≤ p.line then .discarded .outOfRange
  else
    match s.rtu.head with
    | none => .discarded .early
    | some head =>
      if head.frame ≠ p.frame ∧ s.rtu.triggered ≠ some p.frame then .discarded .early
      else
        match windowOutcome s.rtu.settings.total (departureDistance s.rtu.settings head p.frame p.line) with
        | some c => .discarded c
        | none => acceptUnder (s.las.bankFor s.rtu.triggered p.frame p.line) i p s.las

/-- Whether a presence set holds every entry of a map (04, R68). -/
def presenceComplete (es : List Place) (present : List Segment) : Bool :=
  es.all fun e => (presentSamples present e).isSome

/-- A record with one more segment stored (04, R68). -/
def LineRecord.store (es : List Place) (x : Segment) (r : LineRecord) : LineRecord :=
  { r with present := r.present ++ [x], complete := presenceComplete es (r.present ++ [x]) }

/-- The samples of a packet are stored, in its line's record or in one opened for it (04, R68). With 16 records in use
and none of this line, nothing is stored; no reachable state comes to that (04, R64; log 14). -/
def storeSegment (bank : Bank) (i : Fin 4) (p : TilePacket) (l : Las) : Las :=
  let x : Segment := { lane := i, segment := p.segment, samples := p.samples }
  let es := (l.map bank).entries
  if (l.recordOf p.frame p.line).isSome then
    { l with records := l.records.map fun r => if r.frame == p.frame && r.line == p.line then r.store es x else r }
  else if l.records.length < recordCount then
    let fresh : LineRecord := { frame := p.frame, line := p.line, stamp := bank, complete := false, present := [] }
    { l with records := l.records ++ [fresh.store es x] }
  else l

/-! ## The consecutive-error count (03, R52) -/

/-- A good item taken in UP (03, R52). -/
def goodItem (i : Fin 4) (s : State) : State := s.mapLane i fun l => { l with errCount := 0 }

/-- A lane error taken in UP (03, R52): at the Error Queue threshold the lane enters FAILED. -/
def laneError (i : Fin 4) (s : State) : State :=
  if s.slr.lanes[i].errThreshold ≤ s.slr.lanes[i].errCount + 1 then changeLane i .failed s
  else s.mapLane i fun l => { l with errCount := l.errCount + 1 }

/-! ## Good items by kind -/

/-- A good tile packet (03, R53; 04, R69). -/
def takeTile (i : Fin 4) (p : TilePacket) (s : State) : State :=
  match acceptance i p s with
  | .stored bank => goodItem i (s.mapLas (storeSegment bank i p))
  | .badLength => laneError i (s.count .badLength 1)
  | .discarded c => goodItem i ((s.count c 1).raise .segmentDiscard)

/-- The mode test of a confirmed word (03, R55, R56). -/
def Lane.confirms (w : LaneBits) (l : Lane) : Bool :=
  match l.watchMode with
  | .event => (w &&& l.watchMask) != (l.latched &&& l.watchMask)
  | .matching =>
    (w &&& l.watchMask) == (l.watchCompare &&& l.watchMask) &&
      (l.latched &&& l.watchMask) != (l.watchCompare &&& l.watchMask)

/-- A good status word raises BOARD_STATUS (03, R54 to R56). -/
def Lane.alerts (w : LaneBits) (l : Lane) : Bool := l.candidate == some w && l.confirms w

/-- The watch after a good status word (03, R54). -/
def Lane.watch (w : LaneBits) (l : Lane) : Lane :=
  { l with lastWord := some w, staleCount := 0, stale := false, candidate := some w,
           latched := if l.candidate = some w then w else l.latched,
           eventMark := l.eventMark || l.alerts w }

/-- A good status word (03, R54). -/
def takeStatus (i : Fin 4) (w : LaneBits) (s : State) : State :=
  let s' := goodItem i (s.mapLane i (Lane.watch w))
  if s.slr.lanes[i].alerts w then s'.raise .boardStatus else s'

/-- A request that an answer with this tag completes (07, R122). -/
def Request.answers (tag : Byte) (r : Request) : Bool := r.status == .inFlight && r.tag == tag

/-- A good relay answer (07, R122, R125). -/
def takeAnswer (i : Fin 4) (tag : Byte) (payload : List Byte) (s : State) : State :=
  let s := goodItem i s
  if s.bcr[i].queue.any (Request.answers tag) then
    s.mapRelay i fun l =>
      { l with timer := false,
               queue := l.queue.map fun r =>
                 if r.answers tag then { r with status := .decided .done, answer := payload } else r }
  else s.count .strayAnswer 1

/-- An item that fails its check (03, R50). -/
def badCheckItem (i : Fin 4) (status : Bool) (s : State) : State :=
  let s := s.count .badCheck 1
  laneError i (if status then s.mapLane i fun l => { l with candidate := none } else s)

/-- The SLR takes an item in UP (03, R49 to R53). -/
def takeItem (i : Fin 4) (j : Judged) (s : State) : State :=
  match j with
  | .idle => s
  | .badCheck status => badCheckItem i status s
  | .badLength => laneError i (s.count .badLength 1)
  | .tile p => takeTile i p s
  | .status w => takeStatus i w s
  | .answer tag payload => takeAnswer i tag payload s

/-! ## Alignment (03, R44) -/

/-- The idle run at which a lane comes UP (03, R44). -/
def alignedRun : Nat := 32

/-- A lane comes UP (03, R44, R45). -/
def laneUp (i : Fin 4) (s : State) : State :=
  changeLane i .up (s.mapLane i fun l => { l with alignTimer := false })

/-- A lane word taken in ALIGNING (03, R44). -/
def takeAligningWord (i : Fin 4) (w : LaneWord) (s : State) : State :=
  if goodIdle w then
    let s := s.mapLane i fun l => { l with idleRun := l.idleRun + 1 }
    if alignedRun ≤ s.slr.lanes[i].idleRun then laneUp i s else s
  else s.mapLane i fun l => { l with idleRun := 0 }

/-- The alignment timer of a lane expires (03, R44, R46). -/
def alignmentExpired (i : Fin 4) (s : State) : State :=
  changeLane i .failed (s.mapLane i fun l => { l with alignTimer := false })

/-! ## The answer timer (07, R123) -/

/-- The request of a lane that is IN_FLIGHT (07, R118). -/
def RelayLane.flying (l : RelayLane) : Option Request := l.queue.find? fun r => r.status == .inFlight

/-- The IN_FLIGHT request replaced (07, R118). -/
def RelayLane.setFlying (f : Request → Request) (l : RelayLane) : RelayLane :=
  { l with queue := l.queue.map fun r => if r.status == .inFlight then f r else r }

/-- The answer timer of a lane expires: the command is sent again, or the request has FAILED (07, R123). -/
def answerExpired (i : Fin 4) (r : Request) (s : State) : State :=
  if r.retries < s.slr.lanes[i].retryLimit then
    ((s.mapRelay i (RelayLane.setFlying fun r => { r with retries := r.retries + 1 })).count .relayRetry 1).emit
      (.downlink i (.relayCommand r.tag r.payload))
  else
    s.mapRelay i fun l => { l.setFlying (fun r => { r with status := .decided .failed }) with timer := false }

/-! ## LANE_RESET and DATAPATH_RESET at the receivers (03, R58, R59) -/

/-- LANE_RESET of a lane (03, R58; 07, R126). -/
def resetLaneReceiver (i : Fin 4) (s : State) : State :=
  let s := discardLane i s
  let s := if s.slr.lanes[i].supplyGood then beginAlignment i (changeLane i .aligning s) else s
  s.mapLane i fun l => { l with errCount := 0, candidate := none, staleCount := 0, stale := false }

/-- DATAPATH_RESET at a lane (03, R59; 07, R126). -/
def clearLaneReceiver (i : Fin 4) (s : State) : State :=
  discardLane i (s.mapLane i fun l => { l with errCount := 0, candidate := none })

end Sys2Proof.Machine
end

