-- ==== Sys2Proof/Machine/Supply.lean ====
section
/-! DEFINITION. The supply outputs, their power-good watch, the ramps and the supply faults (08). -/

namespace Sys2Proof.Machine

/-! ## Outputs (08, R132, R133) -/

/-- The lane whose board an output supplies, none for Sensor Bias and Readout Cooling (08, Table 9-1). -/
def laneOfOutput (n : Fin 6) : Option (Fin 4) := if h : n.val < 4 then some ⟨n.val, h⟩ else none

/-- Act on one output alone. -/
def State.mapOutput (n : Fin 6) (f : Supply → Supply) (s : State) : State :=
  s.mapBss fun b => { b with outputs := b.outputs.set n (f b.outputs[n]) }

/-- The judgement of an output becomes GOOD, and its watch timer is cancelled (08, R132, R133). -/
def outputGood (n : Fin 6) (s : State) : State :=
  let s := s.mapOutput n fun o => { o with good := true, timer := .none }
  match laneOfOutput n with
  | some i => laneSupplyGood i s
  | none => s

/-- The SLR of an output that was GOOD hears that it is not (08, R133). -/
def reportLost (n : Fin 6) (s : State) : State :=
  match laneOfOutput n with
  | some i => laneSupplyLost i s
  | none => s

/-- An output is enabled (08, R132). -/
def enableOutput (n : Fin 6) (s : State) : State :=
  let s' := s.mapOutput n fun o => { o with enable := true }
  if s.bss.outputs[n].input then outputGood n s' else s'.mapOutput n fun o => { o with timer := .start }

/-- An output is disabled (08, R132, R133). -/
def disableOutput (n : Fin 6) (s : State) : State :=
  let s' := s.mapOutput n fun o => { o with enable := false, good := false, timer := .none, faultHeld := false }
  if s.bss.outputs[n].good then reportLost n s' else s'

/-- The six outputs, in their order. -/
def allOutputs : List (Fin 6) := [0, 1, 2, 3, 4, 5]

/-- A strobe enables every output that has its number (08, R136). -/
def enableStrobe (k : Nat) (s : State) : State :=
  allOutputs.foldl (fun s n => if s.bss.strobes[n] = k then enableOutput n s else s) s

/-- A strobe disables every ON output that has its number (08, R139). -/
def disableStrobe (k : Nat) (s : State) : State :=
  allOutputs.foldl
    (fun s n => if s.bss.strobes[n] = k ∧ s.bss.outputs[n].enable = true then disableOutput n s else s) s

/-! ## Ramps (08, R135 to R139) -/

/-- The ramp position: the next strobe and the delay running (08, introduction). -/
def setRamp (next : Option Nat) (delay : Option (Fin 4)) (s : State) : State :=
  s.mapBss fun b => { b with nextStrobe := next, delay := delay }

/-- The power state changes (08, section 9.3). -/
def setPower (p : PowerState) (s : State) : State := (s.mapBss fun b => { b with power := p }).raise .powerState

/-- Every output whose strobe is not 0 is ON and GOOD (08, R137). -/
def Bss.allUp (b : Bss) : Bool :=
  allOutputs.all fun n => b.strobes[n] == 0 || (b.outputs[n].enable && b.outputs[n].good)

/-- The RUNNING test (08, R137). -/
def testRunning (s : State) : State := if s.bss.allUp then setPower .running s else s

/-- The ramp goes up through its last `r` strobes: the delay before the next one starts, and a delay of 0 makes the
strobe act at once (08, R136). After strobe 4 the RUNNING test is made. -/
def runUp : Nat → State → State
  | 0, s => testRunning (setRamp none none s)
  | r + 1, s =>
    let d : Fin 4 := Fin.ofNat 4 (3 - r)
    let s := setRamp (some (4 - r)) (some d) s
    if s.bss.delays[d] = 0 then runUp r (enableStrobe (4 - r) s) else s

/-- The delay before strobe `k` has expired: the strobe acts and the ramp goes on (08, R136). -/
def upStrobe (k : Nat) (s : State) : State := runUp (4 - k) (enableStrobe k s)

/-- The ramp goes down from strobe `k` on: the strobe acts and the delay after it starts; a delay of 0 has the next
step follow at once. After strobe 1 and its delay the state becomes DORMANT (08, R139; log 21). -/
def runDown : Nat → State → State
  | 0, s => setPower .dormant (setRamp none none s)
  | k + 1, s =>
    let d : Fin 4 := Fin.ofNat 4 k
    let s := setRamp (if k = 0 then none else some k) (some d) (disableStrobe (k + 1) s)
    if s.bss.delays[d] = 0 then runDown k s else s

/-- A ramp-down begins with a cause (08, R138, R139, R142). -/
def beginRampDown (c : RampCause) (s : State) : State :=
  runDown 4 (setPower .rampingDown (s.mapBss fun b => { b with cause := c }))

/-- A ramp-up begins (08, R135). -/
def beginRampUp (s : State) : State :=
  runUp 4 (setPower .rampingUp (s.mapBss fun b => { b with cause := .none }))

/-- The delay timer expires in RAMPING_UP (08, R136). -/
def upDelayExpired (s : State) : State :=
  match s.bss.power, s.bss.delay, s.bss.nextStrobe with
  | .rampingUp, some _, some k => upStrobe k s
  | _, _, _ => s

/-- The delay timer expires in RAMPING_DOWN (08, R139). -/
def downDelayExpired (s : State) : State :=
  match s.bss.power, s.bss.delay with
  | .rampingDown, some _ => runDown (s.bss.nextStrobe.getD 0) s
  | _, _ => s

/-! ## The power-good inputs (08, R132, R137) -/

/-- The RUNNING test is made when a judgement becomes GOOD in RAMPING_UP after strobe 4 has acted (08, R137). -/
def lateRunningTest (s : State) : State :=
  if s.bss.power = .rampingUp ∧ s.bss.nextStrobe = none then testRunning s else s

/-- A power-good input rises (08, R132). -/
def inputRises (n : Fin 6) (s : State) : State :=
  let o := s.bss.outputs[n]
  let s := s.mapOutput n fun o => { o with input := true }
  if o.enable = true ∧ o.faultHeld = false then
    if o.good then
      (if o.timer = .loss then s.mapOutput n fun o => { o with timer := .none } else s)
    else lateRunningTest (outputGood n s)
  else s

/-- A power-good input falls (08, R132). -/
def inputFalls (n : Fin 6) (s : State) : State :=
  let o := s.bss.outputs[n]
  let s := s.mapOutput n fun o => { o with input := false }
  if o.enable = true ∧ o.faultHeld = false ∧ o.good = true then s.mapOutput n fun o => { o with timer := .loss }
  else s

/-! ## Faults (08, R140 to R142) -/

/-- The bit of the START mark of an output (08, R143). -/
def startMark (n : Fin 6) : BitVec 12 := 1#12 <<< (2 * n.val)

/-- The bit of the LOSS mark of an output (08, R143). -/
def lossMark (n : Fin 6) : BitVec 12 := 1#12 <<< (2 * n.val + 1)

/-- A fault acts on the power state (08, R142). -/
def faultRamp (s : State) : State :=
  if s.bss.power = .rampingUp ∨ s.bss.power = .running then beginRampDown .fault s else s

/-- A fault is recorded (08, R140, R141). -/
def recordFault (n : Fin 6) (mark : BitVec 12) (s : State) : State :=
  ((s.mapOutput n fun o => { o with timer := .none, faultHeld := true }).mapBss
    fun b => { b with marks := b.marks ||| mark }).raise .supplyFault

/-- A START fault (08, R140). -/
def startFault (n : Fin 6) (s : State) : State := faultRamp (recordFault n (startMark n) s)

/-- A LOSS fault (08, R141): the judgement becomes NOT_GOOD, and a lane hears of it. -/
def lossFault (n : Fin 6) (s : State) : State :=
  faultRamp (recordFault n (lossMark n) (reportLost n (s.mapOutput n fun o => { o with good := false })))

/-- The watch timer of an output expires, when it is the one that runs (08, R140, R141). -/
def watchExpired (n : Fin 6) (t : WatchTimer) (fault : State → State) (s : State) : State :=
  if s.bss.outputs[n].timer = t then fault s else s

end Sys2Proof.Machine
end

