-- ==== Sys2Proof/Machine/Timing.lean ====
section
/-! DEFINITION. Markers, echoes and the marker deadline: the timing state, the line period, the advance and wait,
relock and entry to FREE (02). -/

namespace Sys2Proof.Machine

/-! ## Relock and entry to FREE (02, R36, R37) -/

/-- The tick phase, Lp, the advance and the lock-up run are cleared and the timing state becomes `st`
(02, R36, R37). -/
def Rtu.clearPhase (st : TimingState) (r : Rtu) : Rtu :=
  { r with timing := st, lp := none, advance := none, wait := none, lockCount := 0, lockRef := none, ticks := [],
           lastTick := none, deadline := none, head := none, triggered := none }

/-- The RTU relocks (02, R37). TIMING_STATE is raised even when it was LOCKING already. -/
def relock (s : State) : State :=
  ((flush s).mapRtu fun r => { r.clearPhase .locking with missRun := 0 }).raise .timingState

/-- The RTU relocks because of a marker, which sets the previous-marker record: a valid one becomes it, an invalid one
makes it absent (02, R37). -/
def relockBy (record : Option MarkerRecord) (s : State) : State :=
  (relock s).mapRtu fun r => { r with prev := record }

/-- The RTU enters FREE from HOLDOVER (02, R36). The miss run stays as it is. -/
def enterFree (s : State) : State :=
  let s := (flush s).mapRtu fun r => { r.clearPhase .free with prev := none }
  handTally .off ((s.raise .timingState).raise .referenceLost)

/-! ## The advance and the wait (02, R27, R33) -/

/-- The need N, in du (02, R27). -/
def needFor (dapp offset : Nat) : Nat := 2 * dapp + offset

/-- The advance j: the ceiling of N / Lp, 0 for N = 0 (02, R27). -/
def advanceFor (need lp : Nat) : Nat := (need + lp - 1) / lp

/-- The wait is recomputed with the held advance; one outside 0 to Lp - 1 makes the RTU relock (02, R33). -/
def recomputeWait (s : State) : State :=
  match s.rtu.advance, s.rtu.lp, s.rtu.dapp with
  | some j, some lp, some dapp =>
    let w : Int := (j * lp : Nat) - (needFor dapp s.rtu.settings.offset : Nat)
    if 0 ≤ w ∧ w < lp then s.mapRtu fun r => { r with wait := some w.toNat } else relock s
  | _, _, _ => s

/-- The wait is recomputed in LOCKED and HOLDOVER when Lp or Dapp is not what it was (02, R33). -/
def followUpdates (lp dapp : Option Nat) (s : State) : State :=
  if s.rtu.timing.ticking = true ∧ (s.rtu.lp ≠ lp ∨ s.rtu.dapp ≠ dapp) then recomputeWait s else s

/-! ## Intervals (02, R22) -/

/-- A Reference Marker as the RTU takes it (02, R22). -/
structure Marker where
  line  : Nat
  tag   : Fin 16
  tally : Tally
  time  : Nat
deriving DecidableEq, Repr

/-- The record a valid marker leaves (02, R22). -/
def Marker.record (m : Marker) : MarkerRecord := { line := m.line, tag := m.tag, time := m.time }

/-- The marker is consecutive with the previous-marker record (02, R22). -/
def Marker.follows (m : Marker) (total : Nat) (p : MarkerRecord) : Bool := m.line == (p.line + 1) % total

/-- The interval a valid marker forms, if it is consecutive with the record (02, R22). -/
def intervalOf (total : Nat) (prev : Option MarkerRecord) (m : Marker) : Option Int :=
  match prev with
  | some p => if m.follows total p then some ((m.time : Int) - p.time) else none
  | none => none

/-- An interval is in range (02, R22). -/
def intervalGood (i : Int) : Bool := 1000 ≤ i && i ≤ 65535

/-- Lp after a good interval (02, R22). -/
def nextLp (lp : Option Nat) (i : Nat) : Nat :=
  match lp with
  | none => i
  | some l => (3 * l + i + 2) / 4

/-- What the interval a marker forms does to Lp and to BAD_INTERVAL (02, R22). -/
def takeInterval (i : Option Int) (s : State) : State :=
  match i with
  | none => s
  | some i =>
    if intervalGood i then s.mapRtu fun r => { r with lp := some (nextLp r.lp i.toNat) } else s.count .badInterval 1

/-- The marker becomes the previous-marker record (02, R22). -/
def recordMarker (m : Marker) (s : State) : State := s.mapRtu fun r => { r with prev := some m.record }

/-! ## The lock-up run and the lock attempt (02, R29, R30) -/

/-- The lock-up run after a valid marker's interval (02, R29). -/
def lockRun (i : Option Int) (r : Rtu) : Rtu :=
  match i with
  | none => { r with lockCount := 0 }
  | some i =>
    if intervalGood i then
      match r.lockCount, r.lockRef with
      | c + 1, some ref =>
        if (i - ref).natAbs ≤ 4 then { r with lockCount := min 8 (c + 2) }
        else { r with lockCount := 1, lockRef := some i.toNat }
      | _, _ => { r with lockCount := 1, lockRef := some i.toNat }
    else { r with lockCount := 0 }

/-- The marker deadline a marker taken in LOCKED starts (02, R34). -/
def deadlineAfter (time : Nat) (lp : Option Nat) : Option Nat := some (time + lp.getD 0 + 64)

/-- A lock attempt (02, R30). -/
def attemptLock (m : Marker) (dapp : Nat) (s : State) : State :=
  let lp := s.rtu.lp.getD 0
  let need := needFor dapp s.rtu.settings.offset
  let j := advanceFor need lp
  if 15 < j then s.raise .delayRange
  else
    (s.mapRtu fun r =>
      { r with timing := .locked, advance := some j, wait := some (j * lp - need), missRun := 0, lastTick := none,
               deadline := deadlineAfter m.time r.lp }).raise .timingState

/-- A lock attempt is made when the run is qualified and Dapp has a value (02, R30). -/
def mayLock (m : Marker) (s : State) : State :=
  match s.rtu.dapp with
  | some d => if s.rtu.lockCount = 8 then attemptLock m d s else s
  | none => s

/-! ## Markers by timing state -/

/-- A marker is valid (02, R22). -/
def Marker.valid (total : Nat) (m : Marker) : Bool := m.line < total

/-- A marker in FREE (02, R28): the first valid one moves the RTU to LOCKING. -/
def markerInFree (m : Marker) (s : State) : State :=
  if m.valid s.rtu.settings.total then
    let s := ageProbe (handTally m.tally s)
    (s.mapRtu fun r =>
      { r with timing := .locking, lp := none, lockCount := 0, lockRef := none, prev := some m.record,
               advance := none, wait := none }).raise .timingState
  else s

/-- A marker in LOCKING (02, R29, R30). -/
def markerInLocking (m : Marker) (s : State) : State :=
  if m.valid s.rtu.settings.total then
    let i := intervalOf s.rtu.settings.total s.rtu.prev m
    let s := takeInterval i (ageProbe (handTally m.tally s))
    mayLock m (recordMarker m (s.mapRtu (lockRun i)))
  else s.mapRtu fun r => { r with lockCount := 0, prev := none }

/-- The label of the tick a marker schedules (02, R31). -/
def markerLabel (total j : Nat) (m : Marker) : Label :=
  { frame := m.tag + Fin.ofNat 16 ((m.line + j) / total), num := (m.line + j) % total }

/-- The tick a marker schedules, at its arrival plus the current wait (02, R31). -/
def markerTick (m : Marker) (wait : Nat) (r : Rtu) : Tick :=
  { label := markerLabel r.settings.total (r.advance.getD 0) m, time := m.time + wait }

/-- A marker with the line number and the tag that continue the record, `skip` lines after the next one
(02, R31, R35). -/
def Marker.expected (m : Marker) (total skip : Nat) (p : MarkerRecord) : Bool :=
  m.line == (p.line + skip + 1) % total && m.tag == p.tag + Fin.ofNat 16 ((p.line + skip + 1) / total)

/-- The marker is the one the record lets the RTU expect (02, R31, R35). -/
def expectedMarker (m : Marker) (skip : Nat) (s : State) : Bool :=
  match s.rtu.prev with
  | some p => m.expected s.rtu.settings.total skip p
  | none => false

/-- An expected marker in LOCKED (02, R31): the interval, the record, the deadline, the tick, the tally, and last the
recomputation of the wait (log 20). -/
def followMarker (m : Marker) (s : State) : State :=
  let lp := s.rtu.lp
  let wait := s.rtu.wait.getD 0
  let s := recordMarker m (takeInterval (intervalOf s.rtu.settings.total s.rtu.prev m) s)
  let s := s.mapRtu fun r => { r with deadline := deadlineAfter m.time r.lp }
  let s := handTally m.tally (scheduleTick m.time (markerTick m wait s.rtu) s)
  followUpdates lp s.rtu.dapp s

/-- A marker in LOCKED (02, R31). An unexpected valid one hands over its tally (R40), may count BAD_INTERVAL (log 19)
and makes the RTU relock. -/
def markerInLocked (m : Marker) (s : State) : State :=
  if m.valid s.rtu.settings.total then
    if expectedMarker m 0 s then followMarker m s
    else
      relockBy (some m.record)
        (handTally m.tally (takeInterval (intervalOf s.rtu.settings.total s.rtu.prev m) s))
  else relockBy none s

/-- The RTU returns to LOCKED from HOLDOVER (02, R35). -/
def regainMarker (m : Marker) (s : State) : State :=
  let s := (s.mapRtu fun r =>
    { r with timing := .locked, missRun := 0, prev := some m.record,
             deadline := deadlineAfter m.time r.lp }).raise .timingState
  handTally m.tally (scheduleTick m.time (markerTick m (s.rtu.wait.getD 0) s.rtu) s)

/-- A marker in HOLDOVER (02, R35). -/
def markerInHoldover (m : Marker) (s : State) : State :=
  if m.valid s.rtu.settings.total then
    if expectedMarker m s.rtu.missRun s then regainMarker m s
    else relockBy (some m.record) (handTally m.tally s)
  else relockBy none s

/-- The RTU takes a marker (02, R22, R28 to R31, R35). -/
def deliverMarker (m : Marker) (s : State) : State :=
  match s.rtu.timing with
  | .free => markerInFree m s
  | .locking => markerInLocking m s
  | .locked => markerInLocked m s
  | .holdover => markerInHoldover m s

/-! ## Echoes (02, R24, R26) -/

/-- The head's fixed turnaround, in du (02, section 3.3). -/
def turnaround : Nat := 96

/-- Dapp after a valid one-way delay (02, R26). -/
def nextDapp (dapp : Option Nat) (d : Nat) : Nat :=
  match dapp with
  | none => d
  | some a => (3 * a + d + 2) / 4

/-- The measurement of a matching echo (02, R24, R26): M - H - 96 is `x`. -/
def measureDelay (x : Int) (s : State) : State :=
  if x < 0 then s.count .badProbe 1
  else
    let d := (x / 2).toNat
    let dapp := s.rtu.dapp
    let s := s.mapRtu fun r => { r with lastDelay := some d, dapp := some (nextDapp r.dapp d) }
    followUpdates s.rtu.lp dapp s

/-- The RTU takes an echo at a time (02, R24). -/
def deliverEcho (now : Nat) (e : Echo) (s : State) : State :=
  match s.rtu.probe with
  | some p =>
    if p.id = e.id then
      measureDelay ((now : Int) - p.sent - e.hold - turnaround)
        (s.mapRtu fun r => { r with probe := none, abandonRun := 0 })
    else s
  | none => s

/-! ## The marker deadline (02, R34 to R36) -/

/-- A holdover tick is scheduled and the deadline moves on by Lp (02, R34, R35). -/
def holdOver (deadline : Nat) (s : State) : State :=
  let lp := s.rtu.lp.getD 0
  let s := s.mapRtu fun r => { r with deadline := some (deadline + lp) }
  match s.rtu.lastTick with
  | some last => scheduleHoldover deadline lp last s
  | none => s

/-- One more marker is missed (02, R34, R35, R36). -/
def missMarker (s : State) : State :=
  (s.mapRtu fun r => { r with missRun := r.missRun + 1 }).count .markerMiss 1

/-- The marker deadline expires (02, R34, R35, R36). Without a deadline running nothing expires (log 1). -/
def expireDeadline (s : State) : State :=
  match s.rtu.deadline, s.rtu.timing with
  | some d, .locked =>
    if s.rtu.lastTick.isSome then
      let s := s.mapRtu fun r => { r with timing := .holdover, missRun := 0 }
      holdOver d (missMarker (s.raise .timingState))
    else relock s
  | some d, .holdover => if s.rtu.missRun < 63 then holdOver d (missMarker s) else enterFree (missMarker s)
  | _, _ => s

end Sys2Proof.Machine
end

