-- ==== Sys2Proof/Machine/Tables.lean ====
section
/-! DEFINITION. The management tables: what each index reads, what a WRITE may put there, and what it stores
(10, section 11.4, and the owning rules named in Table 11-2). -/

namespace Sys2Proof.Machine

/-! ## Ranges and access (10, Table 11-2) -/

/-- The number of indices of a table; the tables are numbered 0 to 19 (10, Table 11-2). -/
def tableSize : Nat → Option Nat
  | 0 => some 7
  | 1 => some 5
  | 2 => some 5
  | 3 => some 19
  | 4 => some 19
  | 5 => some 64
  | 6 => some 64
  | 7 => some 48
  | 8 => some 23
  | 9 => some 32
  | 10 => some 10
  | 11 => some 16
  | 12 => some 21
  | 13 => some 21
  | 14 => some 12
  | 15 => some 19
  | 16 => some 54
  | 17 => some 91
  | 18 => some 13
  | 19 => some 6
  | _ => none

/-- The tables a WRITE may reach (10, Table 11-2). -/
def tableWritable (t : Nat) : Bool := [1, 2, 3, 5, 7, 8, 10, 12, 13, 14, 19].contains t

/-- The largest range of a READ or a WRITE (10, section 11.4). -/
def largestCount : Nat := 30

/-- Count is 1 to 30 and the whole range lies in a table of `n` indices (10, R164, R165). -/
def rangeGood (m : Message) (n : Nat) : Bool :=
  1 ≤ m.count.toNat && m.count.toNat ≤ largestCount && m.index.toNat + m.count.toNat ≤ n

/-- The indices of a writable table that hold a field a WRITE stores (10, R165, Table 11-2). -/
def indexWritable (t i : Nat) : Bool :=
  match t with
  | 1 => i == 0
  | 3 => i ≤ 16
  | 19 => i == 0
  | _ => true

/-! ## Reading -/

/-- A yes-or-no field. -/
def fieldOfBool (b : Bool) : Field := fieldOfNat (boolCode b)

/-- The Identity table (10, R166). -/
def readIdentity (i : Nat) : Field := fieldOfNat ([0x0B7, 0x4106, 2, 1, 4, 16, 8192].getD i 0)

/-- Link Settings (01, R2). -/
def readLink (i : Nat) (t : Tle) : Field :=
  fieldOfNat (match i with
    | 0 => t.cap.number
    | 1 => t.link.code
    | 2 => t.profile.number
    | 3 => t.degrade.depth.bits
    | _ => t.degrade.indication.code)

/-- Timing Settings (02, R20). -/
def readTimingSettings (i : Nat) (t : TimingSettings) : Field :=
  fieldOfNat (match i with
    | 0 => t.total
    | 1 => t.active
    | 2 => t.latency
    | 3 => t.lead
    | _ => t.offset)

/-- A Tile Map bank as table 3 or 4 shows it (04, R63). -/
def readTileMap (bank : Bank) (i : Nat) (l : Las) : Field :=
  if i = 0 then fieldOfNat (l.map bank).count
  else if i = 17 then fieldOfNat l.commit.code
  else if i = 18 then fieldOfNat bank.code
  else fieldOfPlace (l.map bank).places[Fin.ofNat 16 (i - 1)]

/-- A Slot Schedule bank as table 5 or 6 shows it (01, R15). -/
def readSchedule (i : Nat) (b : SlotBank) : Field :=
  if i = 0 then fieldOfNat b.depth.bits else fieldOfNat (b.entry i).code

/-- The Correction Table (05, R90). -/
def readCorrection (i : Nat) (t : Vector Correction 16) : Field :=
  let c := t[Fin.ofNat 16 (i / 3)]
  match i % 3 with
  | 0 => fieldOfNat c.black.toNat
  | 1 => fieldOfNat c.gain.toNat
  | _ => fieldOfNat c.pedestal.toNat

/-- Lane Settings (03, R60). -/
def readLaneSettings (i : Nat) (r : Slr) : Field :=
  let l := r.lanes[Fin.ofNat 4 (i / 5)]
  fieldOfNat (if i < 20 then
    (match i % 5 with
    | 0 => l.errThreshold
    | 1 => l.retryLimit
    | 2 => l.watchMode.code
    | 3 => l.watchMask.toNat
    | _ => l.watchCompare.toNat)
  else
    (match i with
    | 20 => r.seam.threshold
    | 21 => r.seam.hysteresis
    | _ => r.seam.queue))

/-- Lane Status (03, R61). -/
def readLaneStatus (i : Nat) (r : Slr) : Field :=
  let l := r.lanes[Fin.ofNat 4 (i / 8)]
  match i % 8 with
  | 0 => fieldOfNat l.state.code
  | 1 => fieldOfBool l.supplyGood
  | 2 => fieldOfNat l.errCount
  | 3 => fieldOfNat l.idleRun
  | 4 => fieldOfOption (l.lastWord.map BitVec.toNat)
  | 5 => fieldOfNat l.latched.toNat
  | 6 => fieldOfBool l.eventMark
  | _ => fieldOfBool l.stale

/-- Power Sequence (08, R134). -/
def readPowerSequence (i : Nat) (b : Bss) : Field :=
  if i < 6 then fieldOfNat b.strobes[Fin.ofNat 6 i] else fieldOfNat b.delays[Fin.ofNat 4 (i - 6)]

/-- Power Status (08, R144). -/
def readPowerStatus (i : Nat) (b : Bss) : Field :=
  match i with
  | 0 => fieldOfNat b.power.code
  | 1 => fieldOfOption b.nextStrobe
  | 2 => fieldOfOption (b.delay.map Fin.val)
  | 3 => fieldOfNat b.cause.code
  | _ =>
    let o := b.outputs[Fin.ofNat 6 ((i - 4) / 2)]
    fieldOfBool (if i % 2 = 0 then o.enable else o.good)

/-- Measurement Results (06, R110). -/
def readMeasurement (i : Nat) (r : MeasureRun) : Field :=
  match i with
  | 0 => fieldOfNat r.state.code
  | 1 => fieldOfNat r.cause.code
  | 2 => fieldOfNat r.n
  | 3 => fieldOfBool r.apply
  | 4 => fieldOfNat r.lines
  | 5 => fieldOfBool r.applied
  | _ =>
    let k : Fin 16 := Fin.ofNat 16 ((i - 6) / 3)
    match i % 3 with
    | 0 => fieldOfNat r.acc[k].count
    | 1 => fieldOfNat r.acc[k].sum
    | _ => fieldOfOption (r.results[k].map BitVec.toNat)

/-- One field of a seam record (06, R117). -/
def readSeam (j : Nat) (r : SeamRecord) : Field :=
  match j with
  | 0 => fieldOfNat r.left
  | 1 => fieldOfBool r.isOpen
  | 2 => fieldOfNat r.run
  | 3 => (r.lastD.map fieldOfInt).getD fieldAbsent
  | 4 => fieldOfInt r.sumDiff
  | _ => fieldOfNat r.lines

/-- Seam Status (06, R117). -/
def readSeamStatus (i : Nat) (rs : List SeamRecord) : Field :=
  if i = 0 then fieldOfNat rs.length
  else (rs[(i - 1) / 6]?.map (readSeam ((i - 1) % 6))).getD fieldAbsent

/-- Timing Status (02, R41). -/
def readTimingStatus (i : Nat) (r : Rtu) : Field :=
  match i with
  | 0 => fieldOfNat r.timing.code
  | 1 => fieldOfOption r.lp
  | 2 => fieldOfOption r.dapp
  | 3 => fieldOfOption r.lastDelay
  | 4 => fieldOfOption r.advance
  | 5 => fieldOfOption r.wait
  | 6 => (r.head.map fun l => fieldOfPair l.frame.val l.num).getD fieldAbsent
  | 7 => fieldOfOption (r.triggered.map Fin.val)
  | 8 => fieldOfNat r.missRun
  | 9 => fieldOfNat r.lockCount
  | 10 => fieldOfNat r.lastProbeId.toNat
  | 11 => (r.probe.map fun p => fieldOfPair p.id.toNat p.age).getD fieldAbsent
  | _ => fieldOfNat r.abandonRun

/-- Accessory Settings (09, R156). -/
def readAccessory (i : Nat) (a : Acu) : Field :=
  fieldOfNat (match i with
    | 0 => a.portRate.baud
    | 1 => a.owner.code
    | 2 => a.down.length
    | 3 => a.up.length
    | 4 => a.callCount.val
    | _ => a.tally.code)

/-- What index `i` of table `t` reads, as it stands (10, R164). -/
def readField (t i : Nat) (s : State) : Field :=
  match t with
  | 0 => readIdentity i
  | 1 => readLink i s.tle
  | 2 => readTimingSettings i s.rtu.settings
  | 3 => readTileMap s.las.active.other i s.las
  | 4 => readTileMap s.las.active i s.las
  | 5 => readSchedule i (s.tle.sched s.tle.active.other)
  | 6 => readSchedule i (s.tle.sched s.tle.active)
  | 7 => readCorrection i s.ldu.correction
  | 8 => readLaneSettings i s.slr
  | 9 => readLaneStatus i s.slr
  | 10 => readPowerSequence i s.bss
  | 11 => readPowerStatus i s.bss
  | 12 => fieldOfBool (s.lma.flags.getLsbD i)
  | 13 => fieldOfBool (s.lma.masks.getLsbD i)
  | 14 => fieldOfBool (s.bss.marks.getLsbD i)
  | 15 => fieldOfNat s.lma.counters[Fin.ofNat 19 i].toNat
  | 16 => readMeasurement i s.ldu.run
  | 17 => readSeamStatus i s.ldu.seams
  | 18 => readTimingStatus i s.rtu
  | _ => readAccessory i s.acu

/-! ## Validating (10, R165; 12, R180) -/

/-- A field that holds a number of a range. -/
def numberIn (lo hi : Nat) (f : Field) : Bool :=
  fieldPresence f == 1 && lo ≤ fieldValue f && fieldValue f ≤ hi

/-- A field that holds one of a few numbers. -/
def numberOf (ns : List Nat) (f : Field) : Bool := fieldPresence f == 1 && ns.contains (fieldValue f)

/-- An entry place in range (04, R62, R63; 12, R180). -/
def placeGood (f : Field) : Bool :=
  fieldPresence f == 1 && placeByte f 1 ≤ 3 && placeByte f 2 ≤ 3 && 1 ≤ placeWidth f && placeWidth f ≤ 4096 &&
    placeByte f 5 ≤ 15 && placeByte f 6 ≤ 1

/-- The value of a field at a writable index lies in its range: the owning rules of Table 11-2. -/
def fieldGood (t i : Nat) (f : Field) : Bool :=
  match t with
  | 1 => numberIn 1 4 f
  | 2 =>
    match i with
    | 0 => numberIn 2 4500 f
    | 1 => numberIn 1 4320 f
    | 2 => numberIn 1 15 f
    | 3 => numberIn 0 15 f
    | _ => numberIn 0 65535 f
  | 3 => if i = 0 then numberIn 0 16 f else placeGood f
  | 5 => if i = 0 then numberOf [10, 12, 14] f else numberIn 0 3 f
  | 7 => if i % 3 = 1 then numberIn 0 65535 f else numberIn 0 4095 f
  | 8 =>
    if i < 20 then
      (match i % 5 with
      | 0 => numberOf [1, 2, 4, 6] f
      | 1 => numberIn 0 3 f
      | 2 => numberIn 0 1 f
      | _ => numberIn 0 65535 f)
    else
      (match i with
      | 20 => numberIn 0 4095 f
      | 21 => numberIn 0 255 f
      | _ => numberOf [1, 2, 4, 6] f)
  | 10 => if i < 6 then numberIn 0 4 f else numberIn 0 15 f
  | 12 => numberIn 0 1 f
  | 13 => numberIn 0 1 f
  | 14 => numberIn 0 1 f
  | 19 => numberOf [9600, 19200, 38400, 57600, 115200] f
  | _ => false

/-- Timing Settings after the fields of a WRITE (02, R20). -/
def storeTiming (t : TimingSettings) (w : Nat × Field) : TimingSettings :=
  match w.1 with
  | 0 => { t with total := fieldValue w.2 }
  | 1 => { t with active := fieldValue w.2 }
  | 2 => { t with latency := fieldValue w.2 }
  | 3 => { t with lead := fieldValue w.2 }
  | _ => { t with offset := fieldValue w.2 }

/-- The conditions Timing Settings meets as a whole (02, R21): Active below Total, Latency at most Total - Active - 1,
Lead below Total. -/
def TimingSettings.good (t : TimingSettings) : Bool :=
  t.active < t.total && t.latency + t.active + 1 ≤ t.total && t.lead < t.total

/-- The fields of a WRITE that are stored: those at writable indices (10, R165). -/
def storedWrites (m : Message) : List (Nat × Field) :=
  (messageWrites m).filter fun w => indexWritable m.table.toNat w.1

/-- Every value is in range and the table as it would stand meets its own conditions (10, R165). -/
def valuesGood (m : Message) (s : State) : Bool :=
  (storedWrites m).all (fun w => fieldGood m.table.toNat w.1 w.2) &&
    (m.table.toNat != 2 || ((storedWrites m).foldl storeTiming s.rtu.settings).good)

/-- The owning block's state does not take the WRITE (10, R165; 04, R75; 08, R134). -/
def writeBusy (t : Nat) (s : State) : Bool :=
  match t with
  | 3 => s.las.commit != .none
  | 5 => s.las.commit != .none
  | 10 => s.bss.power != .dormant
  | _ => false

/-! ## Storing -/

/-- A WRITE to the shadow Tile Map (04, R63). -/
def storeTile (b : TileBank) (w : Nat × Field) : TileBank :=
  if w.1 = 0 then { b with count := fieldValue w.2 }
  else { b with places := b.places.set (Fin.ofNat 16 (w.1 - 1)) (placeOfField w.2) }

/-- A WRITE to the shadow Slot Schedule (01, R15). -/
def storeSlot (b : SlotBank) (w : Nat × Field) : SlotBank :=
  if w.1 = 0 then { b with depth := (depthOfNat (fieldValue w.2)).getD b.depth }
  else { b with entries := b.entries.set (Fin.ofNat 63 (w.1 - 1)) ((slotTypeOfNat (fieldValue w.2)).getD .fill) }

/-- A WRITE to the Correction Table (05, R91). -/
def storeCorrection (t : Vector Correction 16) (w : Nat × Field) : Vector Correction 16 :=
  let k : Fin 16 := Fin.ofNat 16 (w.1 / 3)
  t.set k (match w.1 % 3 with
    | 0 => { t[k] with black := BitVec.ofNat 12 (fieldValue w.2) }
    | 1 => { t[k] with gain := BitVec.ofNat 16 (fieldValue w.2) }
    | _ => { t[k] with pedestal := BitVec.ofNat 12 (fieldValue w.2) })

/-- One of a lane's five fields of Lane Settings (03, R60). -/
def Lane.setSetting (j v : Nat) (l : Lane) : Lane :=
  match j with
  | 0 => { l with errThreshold := v }
  | 1 => { l with retryLimit := v }
  | 2 => { l with watchMode := if v = 0 then .event else .matching }
  | 3 => { l with watchMask := BitVec.ofNat 16 v }
  | _ => { l with watchCompare := BitVec.ofNat 16 v }

/-- A WRITE to Lane Settings (03, R60). -/
def storeLaneSetting (r : Slr) (w : Nat × Field) : Slr :=
  let v := fieldValue w.2
  if w.1 < 20 then
    let k : Fin 4 := Fin.ofNat 4 (w.1 / 5)
    { r with lanes := r.lanes.set k (r.lanes[k].setSetting (w.1 % 5) v) }
  else
    { r with seam := match w.1 with
        | 20 => { r.seam with threshold := v }
        | 21 => { r.seam with hysteresis := v }
        | _ => { r.seam with queue := v } }

/-- A WRITE to the Power Sequence (08, R134). -/
def storePower (b : Bss) (w : Nat × Field) : Bss :=
  if w.1 < 6 then { b with strobes := b.strobes.set (Fin.ofNat 6 w.1) (fieldValue w.2) }
  else { b with delays := b.delays.set (Fin.ofNat 4 (w.1 - 6)) (fieldValue w.2) }

/-- A WRITE to the Alert Masks: 1 is MASKED (11, R173). -/
def storeMask (l : Lma) (w : Nat × Field) : Lma :=
  if fieldValue w.2 = 1 then { l with masks := l.masks ||| (1#21 <<< w.1) }
  else { l with masks := l.masks &&& ~~~(1#21 <<< w.1) }

/-- A mark written with 1 is cleared (08, R143). -/
def clearMark (b : Bss) (w : Nat × Field) : Bss :=
  if fieldValue w.2 = 1 then { b with marks := b.marks &&& ~~~(1#12 <<< w.1) } else b

/-- The status-event marks of all four lanes are cleared (03, R61). -/
def clearEventMarks (s : State) : State :=
  s.mapSlr fun r => { r with lanes := Vector.ofFn fun i => { r.lanes[i] with eventMark := false } }

/-- A flag becomes CLEAR (11, R172). -/
def Lma.clearFlag (f : BitVec 21) (l : Lma) : Lma := { l with flags := l.flags &&& ~~~f }

/-- A flag written with 1 is cleared (11, R172): SUPPLY_FAULT not while a mark is set, BOARD_STATUS together with the
status-event marks. -/
def clearAlert (s : State) (w : Nat × Field) : State :=
  if fieldValue w.2 = 1 ∧ s.lma.flags.getLsbD w.1 = true then
    if w.1 = Flag.supplyFault.index then
      (if s.bss.marks = 0 then s.mapLma (Lma.clearFlag Flag.supplyFault.bit) else s)
    else if w.1 = Flag.boardStatus.index then clearEventMarks (s.mapLma (Lma.clearFlag Flag.boardStatus.bit))
    else s.mapLma (Lma.clearFlag (1#21 <<< w.1))
  else s

/-- What a write of the Profile Cap does to training (01, R8). -/
def followCap (s : State) : State :=
  if s.tle.cap.number < s.tle.profile.number then
    match s.tle.link with
    | .online => enterTraining s.tle.cap s
    | .training => startAttempt s.tle.cap s
    | .down => s
  else s

/-- A WRITE to Link Settings (01, R2, R8): only the Profile Cap is stored. -/
def storeCap (s : State) (w : Nat × Field) : State :=
  followCap (s.mapTle fun t => { t with cap := (profileOfNat (fieldValue w.2)).getD t.cap })

/-- Timing Settings are stored, and the RTU relocks unless it is FREE (02, R21). -/
def storeTimingSettings (ws : List (Nat × Field)) (s : State) : State :=
  let s := s.mapRtu fun r => { r with settings := ws.foldl storeTiming r.settings }
  if s.rtu.timing = .free then s else relock s

/-- What an accepted WRITE does: the fields are stored, and the owning block acts on them (10, R165). -/
def storeTable (t : Nat) (ws : List (Nat × Field)) (s : State) : State :=
  match t with
  | 1 => ws.foldl storeCap s
  | 2 => storeTimingSettings ws s
  | 3 => s.mapLas fun l => l.setMap l.active.other (ws.foldl storeTile (l.map l.active.other))
  | 5 => s.mapTle fun x => x.setSched x.active.other (ws.foldl storeSlot (x.sched x.active.other))
  | 7 => s.mapLdu fun l => { l with correction := ws.foldl storeCorrection l.correction }
  | 8 => s.mapSlr fun r => ws.foldl storeLaneSetting r
  | 10 => s.mapBss fun b => ws.foldl storePower b
  | 12 => ws.foldl clearAlert s
  | 13 => s.mapLma fun l => ws.foldl storeMask l
  | 14 => s.mapBss fun b => ws.foldl clearMark b
  | 19 => s.mapAcu fun a =>
      ws.foldl (fun a w => { a with portRate := (portRateOfNat (fieldValue w.2)).getD a.portRate }) a
  | _ => s

end Sys2Proof.Machine
end

