-- ==== Sys2Proof/Machine/Management.lean ====
section
/-! DEFINITION. The Link Management Agent: Ingress, the performing of messages, the commands, and the grant of a freed
place of Egress (10; 07, R119, R120). -/

namespace Sys2Proof.Machine

/-! ## READ and WRITE (10, R164, R165) -/

/-- The status of a READ (10, R164). -/
def readStatus (m : Message) : Status :=
  match tableSize m.table.toNat with
  | none => .badTable
  | some n => if rangeGood m n then (if m.length = 0 then .ok else .badValue) else .badIndex

/-- The values a READ answered OK carries (10, R164). -/
def readValues (m : Message) (s : State) : List Field :=
  (messageIndices m).map fun i => readField m.table.toNat i s

/-- The answer of a READ (10, R160, R164). -/
def readAnswer (m : Message) (s : State) : UpMessage :=
  .readAnswer m.tag (readStatus m) m.table m.index m.count (if readStatus m = .ok then readValues m s else [])

/-- The status of a WRITE: the first test that fails gives it (10, R165). -/
def writeStatus (m : Message) (s : State) : Status :=
  match tableSize m.table.toNat with
  | none => .badTable
  | some n =>
    if tableWritable m.table.toNat = false then .readOnly
    else if rangeGood m n = false then .badIndex
    else if m.length.toNat ≠ 8 * m.count.toNat then .badValue
    else if valuesGood m s = false then .badValue
    else if writeBusy m.table.toNat s then .busy
    else .ok

/-- What a WRITE does besides its answer (10, R165). -/
def writeEffect (m : Message) (s : State) : State :=
  if writeStatus m s = .ok then storeTable m.table.toNat (storedWrites m) s else s

/-! ## COMMAND (10, R167) -/

/-- The commands, in the order of their codes (10, Table 11-3). -/
inductive Command where
  | powerUp | powerDown | commit | cancelCommit | laneReset | measureStart | measureAbort | clearCounters
  | datapathReset | retrain | relock
deriving DecidableEq, Repr

/-- Command codes run 1 to 11 (12, section 13.4). -/
def Command.code : Command → Byte
  | .powerUp => 1
  | .powerDown => 2
  | .commit => 3
  | .cancelCommit => 4
  | .laneReset => 5
  | .measureStart => 6
  | .measureAbort => 7
  | .clearCounters => 8
  | .datapathReset => 9
  | .retrain => 10
  | .relock => 11

/-- The command a code names, if it names one. -/
def commandOfCode (c : Byte) : Option Command :=
  match c.toNat with
  | 1 => some .powerUp
  | 2 => some .powerDown
  | 3 => some .commit
  | 4 => some .cancelCommit
  | 5 => some .laneReset
  | 6 => some .measureStart
  | 7 => some .measureAbort
  | 8 => some .clearCounters
  | 9 => some .datapathReset
  | 10 => some .retrain
  | 11 => some .relock
  | _ => none

/-- The argument length of a command, in bytes (10, Table 11-3). -/
def Command.argumentLength : Command → Nat
  | .laneReset => 1
  | .measureStart => 3
  | .retrain => 1
  | _ => 0

/-- POWER_UP's status (08, R135). -/
def powerUpStatus (s : State) : Status :=
  match s.bss.power with
  | .dormant => if s.bss.marks = 0 then .ok else .faultPending
  | .running => .ok
  | .rampingUp => .busy
  | .rampingDown => .busy

/-- POWER_UP's effect when answered OK (08, R135). -/
def powerUpEffect (s : State) : State := if s.bss.power = .dormant then beginRampUp s else s

/-- POWER_DOWN's effect (08, R138). -/
def powerDownEffect (s : State) : State :=
  if s.bss.power = .running ∨ s.bss.power = .rampingUp then beginRampDown .command s else s

/-- The shadow Slot Schedule fits the shadow map under a Budget (04, R74). -/
def scheduleFits (b : SlotBank) (width budget : Nat) : Bool :=
  b.hasMgmt budget && cellsFor width b.depth ≤ b.videoSlots budget

/-- COMMIT's status (04, R73 to R75). -/
def commitStatus (s : State) : Status :=
  let es := (s.las.map s.las.active.other).entries
  if s.las.commit ≠ .none then .busy
  else if mapValid es = false then .badValue
  else if scheduleFits (s.tle.sched s.tle.active.other) (totalWidth es) s.tle.profile.budget then .ok
  else .noBudget

/-- COMMIT's effect when answered OK (04, R74). -/
def commitEffect (s : State) : State :=
  s.mapLas fun l =>
    { l with commit := .pending, target := some l.active.other, switchFrame := none, flipMark := false }

/-- CANCEL_COMMIT's status (04, R80). -/
def cancelStatus (s : State) : Status := if s.las.commit = .draining then .busy else .ok

/-- A PENDING commit returns to NONE (04, R80, R82). -/
def cancelPending (s : State) : State :=
  if s.las.commit = .pending then s.mapLas fun l => { l with commit := .none, target := none } else s

/-- N of MEASURE_START (12, section 13.4). -/
def measureLines (body : List Byte) : Nat := numberAt body 0 2

/-- MEASURE_START's status (06, R104). -/
def measureStartStatus (body : List Byte) (s : State) : Status :=
  if measureLines body = 0 ∨ 1 < (byteAt body 2).toNat then .badValue
  else if s.ldu.run.state = .running then .busy
  else .ok

/-- MEASURE_START's effect when answered OK (06, R104). -/
def measureStartEffect (body : List Byte) (s : State) : State :=
  s.mapLdu fun l =>
    { l with run :=
      { state := .running, n := measureLines body, apply := byteAt body 2 == 1, lines := 0, cause := .none,
        applied := false, acc := Vector.replicate 16 { sum := 0, count := 0 }, results := Vector.replicate 16 none } }

/-- LANE_RESET's status (03, R58). -/
def laneResetStatus (body : List Byte) : Status := if (byteAt body 0).toNat < 4 then .ok else .badValue

/-- LANE_RESET's effect when answered OK (03, R58). -/
def laneResetEffect (body : List Byte) (s : State) : State := resetLaneReceiver (Fin.ofNat 4 (byteAt body 0).toNat) s

/-- CLEAR_COUNTERS (10, R168). -/
def clearCounters (s : State) : State := s.mapLma fun l => { l with counters := Vector.replicate 19 0 }

/-- RETRAIN's status (01, R7): 0 is UP, 1 is DOWN_ONLY. -/
def retrainStatus (body : List Byte) : Status := if (byteAt body 0).toNat ≤ 1 then .ok else .badValue

/-- RETRAIN's effect when answered OK (01, R7). -/
def retrainEffect (body : List Byte) (s : State) : State :=
  match s.tle.link with
  | .online => enterTraining (if byteAt body 0 = 0 then s.tle.cap else s.tle.profile) s
  | .training => if byteAt body 0 = 0 then startAttempt s.tle.cap s else s
  | .down => s

/-- RELOCK's effect (02, R37). -/
def relockEffect (s : State) : State := if s.rtu.timing = .free then s else relock s

/-- DATAPATH_RESET at the store and the departure (10, R169; 04, R82; 05, R101; 06, R109, R116; 01, R17). The run is
aborted before a flip it brings about, so its cause is DATAPATH_RESET (06, R109). -/
def clearLines (s : State) : State :=
  let s := completeNow (abortRun .datapathReset (cancelPending (freeRecords s)))
  (formSeams (invalidateHeld (resetBankPair s))).mapTle fun t => { t with buffer := [] }

/-- DATAPATH_RESET (10, R169). -/
def datapathResetEffect (s : State) : State :=
  let s := clearLaneReceiver 3 (clearLaneReceiver 2 (clearLaneReceiver 1 (clearLaneReceiver 0 (clearLines s))))
  clearAccessory s

/-- The owner's status for a command whose Length is right (10, R167). -/
def ownerStatus (c : Command) (body : List Byte) (s : State) : Status :=
  match c with
  | .powerUp => powerUpStatus s
  | .powerDown => .ok
  | .commit => commitStatus s
  | .cancelCommit => cancelStatus s
  | .laneReset => laneResetStatus body
  | .measureStart => measureStartStatus body s
  | .measureAbort => .ok
  | .clearCounters => .ok
  | .datapathReset => .ok
  | .retrain => retrainStatus body
  | .relock => .ok

/-- What a command answered OK does (10, R167). -/
def ownerEffect (c : Command) (body : List Byte) (s : State) : State :=
  match c with
  | .powerUp => powerUpEffect s
  | .powerDown => powerDownEffect s
  | .commit => commitEffect s
  | .cancelCommit => cancelPending s
  | .laneReset => laneResetEffect body s
  | .measureStart => measureStartEffect body s
  | .measureAbort => abortRun .measureAbort s
  | .clearCounters => clearCounters s
  | .datapathReset => datapathResetEffect s
  | .retrain => retrainEffect body s
  | .relock => relockEffect s

/-- The status of a COMMAND (10, R167). -/
def commandStatus (m : Message) (s : State) : Status :=
  match commandOfCode m.index with
  | none => .badValue
  | some c => if m.length.toNat = c.argumentLength then ownerStatus c m.body s else .badValue

/-- What a COMMAND does besides its answer (10, R167). -/
def commandEffect (m : Message) (s : State) : State :=
  match commandOfCode m.index with
  | none => s
  | some c => if commandStatus m s = .ok then ownerEffect c m.body s else s

/-! ## RELAY (07, R119, R120) -/

/-- Each relay queue holds at most 4 requests (07, R118). -/
def relayQueueSize : Nat := 4

/-- The lane a RELAY names (07, R119). -/
def relayLaneOf (m : Message) : Fin 4 := Fin.ofNat 4 m.index.toNat

/-- The status of a RELAY and the reason it carries (07, R119). -/
def relayStatus (m : Message) (s : State) : Status × RelayReason :=
  if 4 ≤ m.index.toNat then (.badValue, .none)
  else if m.length.toNat = 0 ∨ 32 < m.length.toNat then (.refused, .length)
  else if s.slr.lanes[relayLaneOf m].state ≠ .up then (.refused, .laneNotUp)
  else if relayQueueSize ≤ s.bcr[relayLaneOf m].queue.length then (.refused, .queueFull)
  else (.ok, .none)

/-- The request an accepted RELAY makes (07, R120). -/
def newRequest (m : Message) : Request :=
  { tag := m.tag, payload := m.body.take m.length.toNat, status := .waiting, answer := [], retries := 0 }

/-- What a RELAY does besides its answer (07, R120, R121). -/
def relayEffect (m : Message) (s : State) : State :=
  if (relayStatus m s).1 = .ok then
    putInFlight (relayLaneOf m) (s.mapRelay (relayLaneOf m) fun l => { l with queue := l.queue ++ [newRequest m] })
  else s

/-! ## Performing a message (10, R160) -/

/-- The answer of a message, from the state that finds it (10, R160). -/
def answerOf (m : Message) (s : State) : UpMessage :=
  match m.kind.toNat with
  | 1 => readAnswer m s
  | 2 => .writeAnswer m.tag (writeStatus m s) m.table m.index m.count
  | 3 => .commandAnswer m.tag (commandStatus m s) m.index
  | 4 => .relayAccept m.tag (relayStatus m s).1 m.index (relayStatus m s).2
  | _ => .commandAnswer m.tag .badKind m.kind

/-- What a message does besides its answer (10, R160, R164, R165, R167; 07, R119). -/
def effectOf (m : Message) (s : State) : State :=
  match m.kind.toNat with
  | 1 => s
  | 2 => writeEffect m s
  | 3 => commandEffect m s
  | 4 => relayEffect m s
  | _ => s.count .mgmtBad 1

/-- A message is performed: its answer is placed in Egress ahead of every message its action gives rise to
(10, R160). -/
def perform (m : Message) (s : State) : State :=
  relayEvent (effectOf m) (s.mapLma (Lma.place (answerOf m s)))

/-- The head of Ingress is taken and performed while Egress has a place (10, R160), at most `n` times. -/
def lmaRun : Nat → State → State
  | 0, s => s
  | n + 1, s =>
    match s.lma.ingress with
    | m :: rest =>
      if s.lma.room then lmaRun n (perform m (s.mapLma fun l => { l with ingress := rest })) else s
    | [] => s

/-- The LMA takes messages while it can (10, R160). -/
def runLma (s : State) : State := lmaRun s.lma.ingress.length s

/-- A cell is lost at arrival (10, R158, R159). -/
def mgmtLost (c : Counter) (s : State) : State := event (fun s => (s.count c 1).raise .mgmtError) s

/-- A management cell is offered to the LMA (10, R158, R159). -/
def offer (s : State) (m : Message) : State :=
  if 240 < m.length.toNat then mgmtLost .mgmtBad s
  else if ingressSize ≤ s.lma.ingress.length then mgmtLost .mgmtOverflow s
  else runLma (s.mapLma fun l => { l with ingress := l.ingress ++ [m] })

/-! ## Messages of the command rows (10, section 11.1; 12, Table 13-5) -/

/-- A COMMAND message: its command code stands in the Index field (10, R167). -/
def commandMessage (code : Byte) (f : CommandFields) : Message :=
  { kind := 3, tag := f.tag, table := f.table, index := code, count := f.count, length := f.length, body := f.body }

/-- A WRITE message to a table (10, R165). -/
def writeMessage (table : Byte) (f : WriteFields) : Message :=
  { kind := 2, tag := f.tag, table := table, index := f.index, count := f.count, length := f.length, body := f.body }

/-- A RELAY message (07, section 8.2). -/
def relayMessage (f : RelayFields) : Message :=
  { kind := 4, tag := f.tag, table := f.table, index := f.lane, count := f.count, length := f.length, body := f.body }

/-- A management cell arrives (10, R158), with nothing handed to the pins yet (logs 2 and 11). -/
def cellArrives (m : Message) (s : State) : State := offer (beginCommand s) m

/-! ## A place of Egress becomes free (10, R163; 07, R128) -/

/-- The first lane in rotation that holds a result (10, R163). -/
def heldLane (s : State) : Option (Fin 4) :=
  (rotationOrder s.lma.rotation).find? fun i => s.bcr[i].held.isSome

/-- The pending notice is placed with the current flags (10, R163; 11, R174). -/
def grantNotice (s : State) : State :=
  s.mapLma fun l => { (l.place (.alertNotice l.flags)) with noticePending := false }

/-- The held result of a lane is placed, and the lane goes on (10, R163; 07, R128). -/
def grantHeld (i : Fin 4) (r : RelayResult) (s : State) : State :=
  let s := (s.mapRelay i fun l => { l with held := none }).mapLma fun l =>
    { (l.place (.relayResult r)) with rotation := i }
  putInFlight i (moveResults i s.bcr[i].queue.length s)

/-- The freed place is granted to one claim, in the order of 10, R163. -/
def grantPlace (s : State) : State :=
  if s.lma.noticePending then grantNotice s
  else
    match heldLane s with
    | some i =>
      match s.bcr[i].held with
      | some r => grantHeld i r s
      | none => s
    | none => runLma s

end Sys2Proof.Machine
end

