-- ==== Sys2Proof/Machine/Agent.lean ====
section
/-! DEFINITION. The meanings of the commands the Link Management Agent owns, of the table writes without a row of their
own, and of messages it does not know (10, 11). -/

namespace Sys2Proof.Machine

/-- CLEAR_COUNTERS (10, R168). -/
def execClearCounters (f : CommandFields) (s : State) : Host.Outcome State Fault Refusal :=
  .next (cellArrives (commandMessage Command.clearCounters.code f) s)

/-- DATAPATH_RESET (10, R169). -/
def execDatapathReset (f : CommandFields) (s : State) : Host.Outcome State Fault Refusal :=
  .next (cellArrives (commandMessage Command.datapathReset.code f) s)

/-- ALERT_FLAGS_WRITE: a WRITE to the Alert Flags, table 12 (11, R172). -/
def execAlertFlagsWrite (f : WriteFields) (s : State) : Host.Outcome State Fault Refusal :=
  .next (cellArrives (writeMessage 12 f) s)

/-- TABLE_WRITE: a WRITE to a table (10, R165). -/
def execTableWrite (table : Byte) (f : WriteFields) (s : State) : Host.Outcome State Fault Refusal :=
  .next (cellArrives (writeMessage table f) s)

/-- UNKNOWN_KIND: a message whose Kind is none of the four (10, R160). -/
def execUnknownKind (m : Message) (s : State) : Host.Outcome State Fault Refusal := .next (cellArrives m s)

/-- UNKNOWN_COMMAND_CODE: a COMMAND whose code is none of the eleven (10, R167). -/
def execUnknownCommandCode (code : Byte) (f : CommandFields) (s : State) : Host.Outcome State Fault Refusal :=
  .next (cellArrives (commandMessage code f) s)

end Sys2Proof.Machine
end

