-- ==== Sys2Proof/Machine/Boards.lean ====
section
/-! DEFINITION. The meanings of the lane and relay commands (03, 07). -/

namespace Sys2Proof.Machine

/-- A lane word while the lane is ALIGNING; in any other state it is not taken as one (03, R44). -/
def aligningWord (i : Fin 4) (w : LaneWord) (s : State) : State :=
  if s.slr.lanes[i].state = .aligning then takeAligningWord i w s else s

/-- LANE_WORD_ALIGNING (03, R44). -/
def execLaneWordAligning (lane : Fin 4) (w : LaneWord) (s : State) : Host.Outcome State Fault Refusal :=
  .next (event (aligningWord lane w) (beginCommand s))

/-- The alignment timer expires, if it runs (03, R44). -/
def alignmentTimer (i : Fin 4) (s : State) : State :=
  if s.slr.lanes[i].state = .aligning ∧ s.slr.lanes[i].alignTimer = true then alignmentExpired i s else s

/-- ALIGNMENT_TIMER_EXPIRY (03, R44, R46). -/
def execAlignmentTimerExpiry (lane : Fin 4) (s : State) : Host.Outcome State Fault Refusal :=
  .next (event (alignmentTimer lane) (beginCommand s))

/-- An item of a lane's uplink is judged and handed on in UP; in any other state nothing is taken (03, R43, R46,
R49). -/
def laneItem (i : Fin 4) (item : LaneItem) (s : State) : State :=
  if s.slr.lanes[i].state = .up then takeItem i (judgeItem item) s else s

/-- LANE_ITEM_ARRIVAL (03, R49). -/
def execLaneItemArrival (lane : Fin 4) (item : LaneItem) (s : State) : Host.Outcome State Fault Refusal :=
  .next (relayEvent (laneItem lane item) (beginCommand s))

/-- A stale episode that is due begins (03, R57). It is made within the tick that raises the stale count; this is its
form as a command of its own (log 16). -/
def staleDue (i : Fin 4) (s : State) : State :=
  if s.slr.lanes[i].staleDue s.rtu.settings.total then beginStale i s else s

/-- STALE_EPISODE (03, R57). -/
def execStaleEpisode (lane : Fin 4) (s : State) : Host.Outcome State Fault Refusal :=
  .next (event (staleDue lane) (beginCommand s))

/-- LANE_RESET (03, R58). -/
def execLaneReset (f : CommandFields) (s : State) : Host.Outcome State Fault Refusal :=
  .next (cellArrives (commandMessage Command.laneReset.code f) s)

/-- RELAY (07, R119). -/
def execRelay (f : RelayFields) (s : State) : Host.Outcome State Fault Refusal :=
  .next (cellArrives (relayMessage f) s)

/-- The answer timer of a lane expires, if it runs (07, R123). -/
def answerTimer (i : Fin 4) (s : State) : State :=
  match s.bcr[i].flying with
  | some r => if s.bcr[i].timer then answerExpired i r s else s
  | none => s

/-- ANSWER_TIMER_EXPIRY (07, R123). -/
def execAnswerTimerExpiry (lane : Fin 4) (s : State) : Host.Outcome State Fault Refusal :=
  .next (relayEvent (answerTimer lane) (beginCommand s))

end Sys2Proof.Machine
end

