-- ==== Sys2Proof/Machine/Link.lean ====
section
/-! DEFINITION. The meanings of power-on reset and of the link's commands: carrier, timers, superframes and slots
(01; 02, R23; 10, R163). -/

namespace Sys2Proof.Machine

/-! ## Power-on reset, carrier and the link's timers (01, R3, R4) -/

/-- The input pins are not part of what power-on reset sets: their levels stay, and so do the commands waiting
(logs 9 and 10). -/
def keepInputs (old new : State) : State :=
  { new with
    tle := { new.tle with carrier := old.tle.carrier }
    bss := { new.bss with outputs := Vector.ofFn fun i => { new.bss.outputs[i] with input := old.bss.outputs[i].input } }
    pending := old.pending }

/-- Carrier gained (01, R3). -/
def carrierUp (s : State) : State :=
  let s := s.mapTle fun t => { t with carrier := true }
  if s.tle.link = .down ∧ s.tle.restartWait = false then enterTraining s.tle.cap s else s

/-- POWER_ON_RESET (11, R171; 01, R3): every block takes its power-on state, POWER_ON is raised, and carrier present at
the end of the reset is taken as carrier gained. -/
def execPowerOnReset (s : State) : Host.Outcome State Fault Refusal :=
  let s' := keepInputs s State.reset
  .next (if s.tle.carrier then event carrierUp s' else s')

/-- CARRIER_GAINED (01, R3). -/
def execCarrierGained (s : State) : Host.Outcome State Fault Refusal := .next (event carrierUp (beginCommand s))

/-- Carrier lost (01, R3, R6, R9). -/
def carrierDown (s : State) : State :=
  let s := s.mapTle fun t => { t with carrier := false }
  if s.tle.link = .down then s else (enterDown false s).mapTle fun t => { t with badRun := 0 }

/-- CARRIER_LOST (01, R3). -/
def execCarrierLost (s : State) : Host.Outcome State Fault Refusal := .next (event carrierDown (beginCommand s))

/-- The restart wait expires, if it runs (01, R3). -/
def restartExpired (s : State) : State :=
  if s.tle.restartWait then
    let s := s.mapTle fun t => { t with restartWait := false }
    if s.tle.carrier then enterTraining s.tle.cap s else s
  else s

/-- RESTART_WAIT_EXPIRY (01, R3). -/
def execRestartWaitExpiry (s : State) : Host.Outcome State Fault Refusal :=
  .next (event restartExpired (beginCommand s))

/-- The attempt timer expires, if it runs (01, R4). -/
def attemptExpired (s : State) : State :=
  if s.tle.link = .training ∧ s.tle.attemptTimer = true then
    match s.tle.profile.lower with
    | some p => startAttempt p s
    | none => enterDown true s
  else s

/-- ATTEMPT_TIMER_EXPIRY (01, R4). -/
def execAttemptTimerExpiry (s : State) : Host.Outcome State Fault Refusal :=
  .next (event attemptExpired (beginCommand s))

/-! ## Downstream superframes (01, R4, R6, R10, R11; 02, R23) -/

/-- The run of good superframes that ends an attempt (01, R4). -/
def goodRunToOnline : Nat := 64

/-- The run of bad superframes at which the link leaves ONLINE (01, R6). -/
def badRunToTraining : Nat := 16

/-- What a checked superframe does to the runs and to the link state (01, R4, R6). -/
def takeRun (good : Bool) (s : State) : State :=
  match s.tle.link with
  | .down => s
  | .training =>
    let s := s.mapTle fun t => { t with goodRun := if good then t.goodRun + 1 else 0 }
    if goodRunToOnline ≤ s.tle.goodRun then enterOnline s else s
  | .online =>
    let s := s.mapTle fun t => { t with badRun := if good then 0 else t.badRun + 1 }
    if badRunToTraining ≤ s.tle.badRun then enterTraining s.tle.profile s else s

/-- One thing a good superframe hands over (01, R11; 02, R23). -/
inductive Delivery where
  | marker (m : Marker)
  | echo (e : Echo)
  | probe
  | cell (m : Message)
  | aux (b : Byte)
deriving DecidableEq, Repr

/-- The five streams of a good superframe, each in its own order (01, R11; 02, R23). -/
structure Streams where
  marker : List Delivery
  echo   : List Delivery
  probe  : List Delivery
  cells  : List Delivery
  aux    : List Delivery
deriving DecidableEq, Repr

/-- What a good superframe hands over; a probe may be issued when it arrived in TRAINING (01, R11; 02, R23). -/
def streamsOf (d : Downstream) (time : Nat) (training : Bool) : Streams :=
  { marker := [.marker { line := d.line, tag := d.tag, tally := d.tally, time := time }]
    echo := d.echo.toList.map .echo
    probe := if training then [.probe] else []
    cells := d.cells.map .cell
    aux := d.aux.map .aux }

/-- The next delivery of one stream, and the streams without it. -/
def Streams.next (p : Part) (x : Streams) : List Delivery × Streams :=
  match p with
  | .marker => (x.marker.take 1, { x with marker := x.marker.drop 1 })
  | .echo => (x.echo.take 1, { x with echo := x.echo.drop 1 })
  | .probe => (x.probe.take 1, { x with probe := x.probe.drop 1 })
  | .cells => (x.cells.take 1, { x with cells := x.cells.drop 1 })
  | .aux => (x.aux.take 1, { x with aux := x.aux.drop 1 })

/-- The streams merged as the command's order says; what the order leaves over follows stream by stream (01, R11
leaves the order between blocks open; log 4). -/
def mergeParts : List Part → Streams → List Delivery
  | [], x => x.marker ++ x.echo ++ x.probe ++ x.cells ++ x.aux
  | p :: ps, x => (x.next p).1 ++ mergeParts ps (x.next p).2

/-- A good superframe in TRAINING lets the RTU issue a probe when none is outstanding (02, R23). -/
def trainingProbe (now : Nat) (s : State) : State := if s.rtu.probe = none then issueProbe now s else s

/-- One delivery, each an event of its own (01, R11). -/
def deliver (now : Nat) (s : State) (x : Delivery) : State :=
  match x with
  | .marker m => event (deliverMarker m) s
  | .echo e => event (deliverEcho now e) s
  | .probe => trainingProbe now s
  | .cell m => offer s m
  | .aux b => event (fun s => takeAuxByte s b) s

/-- A downstream superframe whose check completes in TRAINING or ONLINE (01, R10, R11): the runs first, then the
parts (log 5). -/
def superframeArrives (bytes : List Byte) (time : Nat) (order : List Part) (s : State) : State :=
  match parseSuperframe bytes with
  | none => event (takeRun false) s
  | some d =>
    (mergeParts order (streamsOf d time (s.tle.link == .training))).foldl (deliver time) (event (takeRun true) s)

/-- SUPERFRAME_ARRIVAL (01, R10). In DOWN no superframe is checked (01, R3). -/
def execSuperframeArrival (bytes : List Byte) (time : Nat) (order : List Part) (s : State) :
    Host.Outcome State Fault Refusal :=
  .next (if s.tle.link = .down then beginCommand s else superframeArrives bytes time order (beginCommand s))

/-! ## Upstream slots (01, R12, R14, R17; 10, R161, R163) -/

/-- A notice takes the flag set current when the slot that carries it begins (11, R174). -/
def refreshNotice (flags : BitVec 21) : UpMessage → UpMessage
  | .alertNotice _ => .alertNotice flags
  | m => m

/-- A MGMT slot begins (01, R14; 10, R161): the oldest message of Egress is removed and carried, and its place is
granted. -/
def mgmtSlot (bank : Bank) (n : Nat) (s : State) : State :=
  match s.lma.egress with
  | [] => beginSlot bank n .fill s
  | m :: rest =>
    grantPlace (beginSlot bank n (.mgmt (refreshNotice s.lma.flags m)) (s.mapLma fun l => { l with egress := rest }))

/-- The most bytes an aux cell holds (01, R14). -/
def auxCellSize : Nat := 418

/-- An AUX slot begins (01, R14). -/
def auxSlot (bank : Bank) (n : Nat) (s : State) : State :=
  beginSlot bank n (.aux (s.acu.up.take auxCellSize)) (s.mapAcu fun a => { a with up := a.up.drop auxCellSize })

/-- A VIDEO slot begins (01, R14, R17). -/
def videoSlot (bank : Bank) (n : Nat) (s : State) : State :=
  match s.tle.buffer with
  | [] => beginSlot bank n .fill s
  | c :: rest => beginSlot bank n (.video c) (s.mapTle fun t => { t with buffer := rest })

/-- A slot after slot 0 begins (01, R14). -/
def laterSlot (bank : Bank) (n : Nat) (s : State) : State :=
  match (s.tle.sched bank).sentType s.tle.profile.budget n with
  | .mgmt => mgmtSlot bank n s
  | .aux => auxSlot bank n s
  | .video => videoSlot bank n s
  | .fill => beginSlot bank n .fill s

/-- The sending of a slot completes (01, R12): the next slot begins, or the superframe ends after slot Budget - 1. -/
def slotDone (s : State) : State :=
  match s.tle.superframe with
  | some f => if f.slot + 1 < s.tle.profile.budget then laterSlot f.bank (f.slot + 1) s else endSuperframe s
  | none => s

/-- SLOT_SENT (01, R12). Without a superframe in progress no slot is being sent (log 1). -/
def execSlotSent (s : State) : Host.Outcome State Fault Refusal := .next (slotDone (beginCommand s))

/-! ## Commands and writes of the link -/

/-- RETRAIN (01, R7). -/
def execRetrain (f : CommandFields) (s : State) : Host.Outcome State Fault Refusal :=
  .next (cellArrives (commandMessage Command.retrain.code f) s)

/-- PROFILE_CAP_WRITE: a WRITE to Link Settings, table 1 (01, R2, R8). -/
def execProfileCapWrite (f : WriteFields) (s : State) : Host.Outcome State Fault Refusal :=
  .next (cellArrives (writeMessage 1 f) s)

end Sys2Proof.Machine
end

