-- ==== Sys2Proof/Machine/Picture.lean ====
section
/-! DEFINITION. The meanings of the commit and measurement commands (04, section 5.5; 06, section 7.1). -/

namespace Sys2Proof.Machine

/-- COMMIT (04, R73, R74, R75). -/
def execCommit (f : CommandFields) (s : State) : Host.Outcome State Fault Refusal :=
  .next (cellArrives (commandMessage Command.commit.code f) s)

/-- CANCEL_COMMIT (04, R80). -/
def execCancelCommit (f : CommandFields) (s : State) : Host.Outcome State Fault Refusal :=
  .next (cellArrives (commandMessage Command.cancelCommit.code f) s)

/-- MEASURE_START (06, R104). -/
def execMeasureStart (f : CommandFields) (s : State) : Host.Outcome State Fault Refusal :=
  .next (cellArrives (commandMessage Command.measureStart.code f) s)

/-- MEASURE_ABORT (06, R108). -/
def execMeasureAbort (f : CommandFields) (s : State) : Host.Outcome State Fault Refusal :=
  .next (cellArrives (commandMessage Command.measureAbort.code f) s)

/-- A run whose line count has reached N completes (06, R106). The completion is part of the departure that brings the
count to N; this is its form as a command of its own (log 16). -/
def measureDue (s : State) : State := if s.ldu.run.due then completeRun s else s

/-- MEASURE_COMPLETE (06, R106, R107). -/
def execMeasureComplete (s : State) : Host.Outcome State Fault Refusal := .next (event measureDue (beginCommand s))

end Sys2Proof.Machine
end

