-- ==== Sys2Proof/Machine/Port.lean ====
section
/-! DEFINITION. The meanings of the accessory port's commands and of the call sample (09). -/

namespace Sys2Proof.Machine

/-- A byte whose stop bit is received low is discarded (09, R146). -/
def portByte (b : Byte) (framingError : Bool) (s : State) : State := if framingError then s else takePortByte b s

/-- PORT_BYTE_RECEIVED (09, R146, R149). -/
def execPortByteReceived (b : Byte) (framingError : Bool) (s : State) : Host.Outcome State Fault Refusal :=
  .next (event (portByte b framingError) (beginCommand s))

/-- PORT_BYTE_SENT (09, R146). With the transmitter IDLE nothing was being sent (log 1). -/
def execPortByteSent (s : State) : Host.Outcome State Fault Refusal := .next (txDone (beginCommand s))

/-- CALL_SAMPLE (09, R153, R154). -/
def execCallSample (pressed : Bool) (s : State) : Host.Outcome State Fault Refusal :=
  .next (event (takeCallSample pressed) (beginCommand s))

end Sys2Proof.Machine
end

