-- ==== Sys2Proof/Machine/Power.lean ====
section
/-! DEFINITION. The meanings of the power commands, the supply inputs and the supply timers (08). -/

namespace Sys2Proof.Machine

/-- POWER_UP (08, R135). -/
def execPowerUp (f : CommandFields) (s : State) : Host.Outcome State Fault Refusal :=
  .next (cellArrives (commandMessage Command.powerUp.code f) s)

/-- POWER_DOWN (08, R138). -/
def execPowerDown (f : CommandFields) (s : State) : Host.Outcome State Fault Refusal :=
  .next (cellArrives (commandMessage Command.powerDown.code f) s)

/-- RAMP_UP_DELAY_EXPIRY (08, R136). -/
def execRampUpDelayExpiry (s : State) : Host.Outcome State Fault Refusal :=
  .next (relayEvent upDelayExpired (beginCommand s))

/-- RAMP_DOWN_DELAY_EXPIRY (08, R139). -/
def execRampDownDelayExpiry (s : State) : Host.Outcome State Fault Refusal :=
  .next (relayEvent downDelayExpired (beginCommand s))

/-- POWER_GOOD_RISE (08, R132, R133, R137). -/
def execPowerGoodRise (output : Fin 6) (s : State) : Host.Outcome State Fault Refusal :=
  .next (relayEvent (inputRises output) (beginCommand s))

/-- POWER_GOOD_FALL (08, R132). -/
def execPowerGoodFall (output : Fin 6) (s : State) : Host.Outcome State Fault Refusal :=
  .next (relayEvent (inputFalls output) (beginCommand s))

/-- START_TIMER_EXPIRY (08, R140, R142). A timer that does not run does not expire (log 1). -/
def execStartTimerExpiry (output : Fin 6) (s : State) : Host.Outcome State Fault Refusal :=
  .next (relayEvent (watchExpired output .start (startFault output)) (beginCommand s))

/-- LOSS_TIMER_EXPIRY (08, R141, R142). -/
def execLossTimerExpiry (output : Fin 6) (s : State) : Host.Outcome State Fault Refusal :=
  .next (relayEvent (watchExpired output .loss (lossFault output)) (beginCommand s))

/-- SUPPLY_FAULT_STATUS_WRITE: a WRITE to the Supply Fault Status, table 14 (08, R143). -/
def execSupplyFaultStatusWrite (f : WriteFields) (s : State) : Host.Outcome State Fault Refusal :=
  .next (cellArrives (writeMessage 14 f) s)

end Sys2Proof.Machine
end

