-- ==== Sys2Proof/Machine/Reference.lean ====
section
/-! DEFINITION. The meanings of the reference timing commands: head line ticks, the marker deadline, probes, Timing
Settings and RELOCK (02). -/

namespace Sys2Proof.Machine

/-- The next scheduled tick is emitted at its time (02, R32). With none scheduled, none is emitted (log 1). -/
def nextTick (s : State) : State :=
  match s.rtu.ticks with
  | t :: rest => emitTick t.time t.label (s.mapRtu fun r => { r with ticks := rest })
  | [] => s

/-- HEAD_LINE_TICK (02, R32). -/
def execHeadLineTick (s : State) : Host.Outcome State Fault Refusal := .next (event nextTick (beginCommand s))

/-- MARKER_DEADLINE_EXPIRY (02, R34 to R36). -/
def execMarkerDeadlineExpiry (s : State) : Host.Outcome State Fault Refusal :=
  .next (event expireDeadline (beginCommand s))

/-- A probe whose age has reached 64 is abandoned (02, R25). The abandonment is made within the event that ages the
probe; this is its form as a command of its own (log 16). -/
def abandonDue (s : State) : State :=
  match s.rtu.probe with
  | some p => if probeLimit ≤ p.age then abandonProbe s else s
  | none => s

/-- PROBE_ABANDON (02, R25). -/
def execProbeAbandon (s : State) : Host.Outcome State Fault Refusal := .next (event abandonDue (beginCommand s))

/-- TIMING_SETTINGS_WRITE: a WRITE to Timing Settings, table 2 (02, R20, R21). -/
def execTimingSettingsWrite (f : WriteFields) (s : State) : Host.Outcome State Fault Refusal :=
  .next (cellArrives (writeMessage 2 f) s)

/-- RELOCK (02, R37). -/
def execRelock (f : CommandFields) (s : State) : Host.Outcome State Fault Refusal :=
  .next (cellArrives (commandMessage Command.relock.code f) s)

end Sys2Proof.Machine
end

