-- ==== Sys2Proof/Machine/Dispatch.lean ====
section
/-! DEFINITION. The dispatch: one arm per constructor of Instr. -/

namespace Sys2Proof.Machine

/-- The command's effect on everything but the queue. -/
def exec (i : Instr) (s : State) : Host.Outcome State Fault Refusal :=
  match i with
  | .powerOnReset => Sys2Proof.Machine.execPowerOnReset s
  | .carrierGained => Sys2Proof.Machine.execCarrierGained s
  | .carrierLost => Sys2Proof.Machine.execCarrierLost s
  | .restartWaitExpiry => Sys2Proof.Machine.execRestartWaitExpiry s
  | .attemptTimerExpiry => Sys2Proof.Machine.execAttemptTimerExpiry s
  | .superframeArrival bytes time order => Sys2Proof.Machine.execSuperframeArrival bytes time order s
  | .retrain f => Sys2Proof.Machine.execRetrain f s
  | .profileCapWrite f => Sys2Proof.Machine.execProfileCapWrite f s
  | .headLineTick => Sys2Proof.Machine.execHeadLineTick s
  | .slotSent => Sys2Proof.Machine.execSlotSent s
  | .markerDeadlineExpiry => Sys2Proof.Machine.execMarkerDeadlineExpiry s
  | .probeAbandon => Sys2Proof.Machine.execProbeAbandon s
  | .timingSettingsWrite f => Sys2Proof.Machine.execTimingSettingsWrite f s
  | .relock f => Sys2Proof.Machine.execRelock f s
  | .laneWordAligning lane w => Sys2Proof.Machine.execLaneWordAligning lane w s
  | .alignmentTimerExpiry lane => Sys2Proof.Machine.execAlignmentTimerExpiry lane s
  | .laneItemArrival lane item => Sys2Proof.Machine.execLaneItemArrival lane item s
  | .staleEpisode lane => Sys2Proof.Machine.execStaleEpisode lane s
  | .laneReset f => Sys2Proof.Machine.execLaneReset f s
  | .commit f => Sys2Proof.Machine.execCommit f s
  | .cancelCommit f => Sys2Proof.Machine.execCancelCommit f s
  | .measureStart f => Sys2Proof.Machine.execMeasureStart f s
  | .measureAbort f => Sys2Proof.Machine.execMeasureAbort f s
  | .measureComplete => Sys2Proof.Machine.execMeasureComplete s
  | .relay f => Sys2Proof.Machine.execRelay f s
  | .answerTimerExpiry lane => Sys2Proof.Machine.execAnswerTimerExpiry lane s
  | .powerUp f => Sys2Proof.Machine.execPowerUp f s
  | .powerDown f => Sys2Proof.Machine.execPowerDown f s
  | .rampUpDelayExpiry => Sys2Proof.Machine.execRampUpDelayExpiry s
  | .rampDownDelayExpiry => Sys2Proof.Machine.execRampDownDelayExpiry s
  | .powerGoodRise output => Sys2Proof.Machine.execPowerGoodRise output s
  | .powerGoodFall output => Sys2Proof.Machine.execPowerGoodFall output s
  | .startTimerExpiry output => Sys2Proof.Machine.execStartTimerExpiry output s
  | .lossTimerExpiry output => Sys2Proof.Machine.execLossTimerExpiry output s
  | .supplyFaultStatusWrite f => Sys2Proof.Machine.execSupplyFaultStatusWrite f s
  | .portByteReceived b framingError => Sys2Proof.Machine.execPortByteReceived b framingError s
  | .portByteSent => Sys2Proof.Machine.execPortByteSent s
  | .callSample pressed => Sys2Proof.Machine.execCallSample pressed s
  | .clearCounters f => Sys2Proof.Machine.execClearCounters f s
  | .datapathReset f => Sys2Proof.Machine.execDatapathReset f s
  | .alertFlagsWrite f => Sys2Proof.Machine.execAlertFlagsWrite f s
  | .tableWrite table f => Sys2Proof.Machine.execTableWrite table f s
  | .unknownKind m => Sys2Proof.Machine.execUnknownKind m s
  | .unknownCommandCode code f => Sys2Proof.Machine.execUnknownCommandCode code f s

end Sys2Proof.Machine
end

