-- ==== Sys2Proof/Machine/Fill.lean ====
section
/-! DEFINITION. What the part sends while no event comes: training blocks on the cable and idle words on the downlinks
(01, R4; 03, R46, R48; 12, R178; log 8). -/

namespace Sys2Proof.Machine

/-- The idle word of a downlink: kind code 0 and nothing else (12, Table 13-4). -/
def downIdle : LaneBits := 0#16

/-- The lane states in which a downlink sends; in OFF it sends nothing (03, R43, R46, Table 4-2). -/
def LaneState.sends : LaneState → Bool
  | .off => false
  | .aligning => true
  | .up => true
  | .failed => true

/-- An idle word fills the gap on a downlink that sends (03, R48). -/
def fillDownlink (i : Fin 4) (s : State) : State :=
  if s.slr.lanes[i].state.sends then s.emit (.idleWord i downIdle) else s

/-- The next training block begins, in TRAINING (12, R178). -/
def fillCable (s : State) : State :=
  match s.trainingBlock with
  | some block => s.emit (.trainingBlock block)
  | none => s

/-- The part while no event comes (log 8): the training pattern goes on on the cable and idle words fill the downlinks.
Nothing else acts without an event. -/
def idlePart (s : State) : State :=
  fillDownlink 3 (fillDownlink 2 (fillDownlink 1 (fillDownlink 0 (fillCable { s with out := [] }))))

end Sys2Proof.Machine
end

