-- ==== Sys2Proof/Safety.lean ====
section
/-! DEFINITION. What every state between two commands keeps to, block by block, and the words the statements use for a
management partner that finds the agent at rest. -/

namespace Sys2Proof.Machine

/-! ## Link (01) -/

/-- The link's own invariant (01, R3, R4, R6, R8, R9, R12, R17): an attempt timer runs in TRAINING alone, a restart wait
in DOWN alone; out of DOWN there is carrier and the profile is not above the cap; a superframe is in progress in ONLINE
with ticks alone, at a slot below the Budget; cells stand in the Departure Buffer while a superframe is in progress
alone. -/
def LinkInv (s : State) : Prop :=
  (s.tle.attemptTimer = true ↔ s.tle.link = .training) ∧
  (s.tle.restartWait = true → s.tle.link = .down) ∧
  (s.tle.link ≠ .down → s.tle.carrier = true ∧ s.tle.profile.number ≤ s.tle.cap.number) ∧
  (s.tle.link = .training → s.tle.goodRun < 64) ∧
  (s.tle.link = .online → s.tle.badRun < 16) ∧
  (∀ f, s.tle.superframe = some f →
    s.tle.link = .online ∧ s.rtu.timing.ticking = true ∧ f.slot < s.tle.profile.budget) ∧
  (s.tle.superframe = none → s.tle.buffer = [])

/-! ## Reference timing (02) -/

/-- Timing Settings in range (02, R20, R21). -/
def TimingSettings.inRange (t : TimingSettings) : Prop :=
  2 ≤ t.total ∧ t.total ≤ 4500 ∧ 1 ≤ t.active ∧ t.active ≤ 4320 ∧ 1 ≤ t.latency ∧ t.latency ≤ 15 ∧ t.lead ≤ 15 ∧
  t.offset ≤ 65535 ∧ t.good = true

/-- The held advance and wait (02, R27): j is 0 to 15, W is 0 to Lp - 1, and W is j × Lp less the need. -/
def Rtu.phaseHeld (r : Rtu) : Prop :=
  ∃ j w lp d, r.advance = some j ∧ r.wait = some w ∧ r.lp = some lp ∧ r.dapp = some d ∧
    j ≤ 15 ∧ w < lp ∧ w + (2 * d + r.settings.offset) = j * lp

/-- No tick phase is held (02, R28, R37). -/
def Rtu.phaseAbsent (r : Rtu) : Prop :=
  r.advance = none ∧ r.wait = none ∧ r.ticks = [] ∧ r.lastTick = none ∧ r.deadline = none ∧ r.head = none ∧
  r.triggered = none

/-- The RTU's invariant (02, R20 to R36). -/
def TimingInv (r : Rtu) : Prop :=
  r.settings.inRange ∧
  (∀ lp, r.lp = some lp → 1000 ≤ lp ∧ lp ≤ 65535) ∧
  r.lockCount ≤ 8 ∧ (r.lockCount ≠ 0 → r.lp.isSome = true ∧ r.lockRef.isSome = true) ∧
  (r.timing.ticking = true → r.phaseHeld ∧ r.deadline.isSome = true ∧ r.prev.isSome = true) ∧
  (r.timing.ticking = false → r.phaseAbsent) ∧
  (r.timing = .free → r.lp = none ∧ r.lockCount = 0 ∧ r.prev = none) ∧
  (r.timing = .locked → r.missRun = 0) ∧
  (r.timing = .holdover → 1 ≤ r.missRun ∧ r.missRun ≤ 63 ∧ r.lastTick.isSome = true) ∧
  r.missRun ≤ 64 ∧
  (∀ l, r.head = some l → l.num < r.settings.total) ∧
  (∀ t ∈ r.ticks, t.label.num < r.settings.total) ∧
  (∀ t, r.lastTick = some t → t.label.num < r.settings.total) ∧
  (∀ p, r.probe = some p → p.age < 64) ∧
  r.abandonRun ≤ 255

/-! ## Line assembly (04) -/

/-- The entries of a map are in range (04, R62). -/
def mapInRange (b : TileBank) : Prop :=
  b.count ≤ 16 ∧ ∀ p ∈ b.places.toList, 1 ≤ p.width ∧ p.width ≤ 4096

/-- The commit's invariant (04, R62, R74, R78 to R80): the active map is valid, a map on its way to be active is valid,
and the Slot Schedule and Tile Map banks are active together. -/
def CommitInv (s : State) : Prop :=
  mapInRange s.las.mapA ∧ mapInRange s.las.mapB ∧
  mapValid (s.las.map s.las.active).entries = true ∧
  s.tle.active = s.las.active ∧
  (s.las.commit = .none → s.las.target = none ∧ s.las.switchFrame = none ∧ s.las.flipMark = false) ∧
  (s.las.commit = .pending →
    s.las.target = some s.las.active.other ∧ s.las.switchFrame = none ∧ s.las.flipMark = false) ∧
  (s.las.commit = .draining →
    s.las.switchFrame.isSome = true ∧
      s.las.target = some (if s.las.flipMark then s.las.active else s.las.active.other)) ∧
  (∀ t, s.las.target = some t → mapValid (s.las.map t).entries = true)

/-- The records in use (04, R64): at most 16, and no two of one line. -/
def RecordsInv (l : Las) : Prop :=
  l.records.length ≤ 16 ∧ l.records.Pairwise fun a b => ¬(a.frame = b.frame ∧ a.line = b.line)

/-! ## Supplies and lanes (03, 08) -/

/-- Outputs (08, R132, R134, R136): an output is ON only with a strobe of 1 to 4; GOOD, a watch timer and the fault-held
mark belong to ON outputs; a START timer runs on a NOT_GOOD output and a LOSS timer on a GOOD one. -/
def OutputsInv (b : Bss) : Prop :=
  ∀ n : Fin 6,
    b.strobes[n] ≤ 4 ∧
    (b.outputs[n].enable = true → b.strobes[n] ≠ 0) ∧
    (b.outputs[n].enable = false →
      b.outputs[n].good = false ∧ b.outputs[n].timer = .none ∧ b.outputs[n].faultHeld = false) ∧
    (b.outputs[n].timer = .start → b.outputs[n].good = false) ∧
    (b.outputs[n].timer = .loss → b.outputs[n].good = true) ∧
    (b.outputs[n].faultHeld = true → b.outputs[n].good = false ∧ b.outputs[n].timer = .none)

/-- The ramp (08, R135 to R139): in DORMANT every output is OFF and no delay runs; going up the next strobe is 1 to 4
and only outputs of the strobes before it are ON; going down every ON output has a strobe still to be disabled; in
RUNNING every output of the sequence is ON. -/
def RampInv (b : Bss) : Prop :=
  (b.power = .dormant → b.nextStrobe = none ∧ b.delay = none ∧ ∀ n : Fin 6, b.outputs[n].enable = false) ∧
  (b.power = .rampingUp →
    (b.nextStrobe = none → b.delay = none) ∧
      ∀ k, b.nextStrobe = some k →
        1 ≤ k ∧ k ≤ 4 ∧ ∀ n : Fin 6, b.outputs[n].enable = true → b.strobes[n] < k) ∧
  (b.power = .rampingDown →
    b.delay.isSome = true ∧ b.nextStrobe ≠ some 0 ∧
      ∀ n : Fin 6, b.outputs[n].enable = true → b.strobes[n] ≤ b.nextStrobe.getD 0) ∧
  (b.power = .running → b.nextStrobe = none ∧ b.delay = none ∧
    ∀ n : Fin 6, b.strobes[n] ≠ 0 → b.outputs[n].enable = true)

/-- The supply output of a lane's board (08, Table 9-1). -/
def outputOfLane (i : Fin 4) : Fin 6 := ⟨i.val, by omega⟩

/-- The lanes and their supplies (03, R42, R43; 08, R133): a lane's supply status is GOOD exactly while its output is ON
and GOOD, and a lane is OFF exactly while it is not; the alignment timer runs in ALIGNING, with an idle run below 32;
the consecutive-error count is 0 to 5 (03, R44, R52). -/
def LaneSupplyInv (s : State) : Prop :=
  ∀ i : Fin 4,
    (s.slr.lanes[i].supplyGood = true ↔
      (s.bss.outputs[outputOfLane i].enable = true ∧ s.bss.outputs[outputOfLane i].good = true)) ∧
    (s.slr.lanes[i].state = .off ↔ s.slr.lanes[i].supplyGood = false) ∧
    (s.slr.lanes[i].state = .aligning → s.slr.lanes[i].alignTimer = true ∧ s.slr.lanes[i].idleRun < 32) ∧
    s.slr.lanes[i].errThreshold ≤ 6 ∧ s.slr.lanes[i].errCount ≤ 5

/-- Outputs, ramp and lanes together. -/
def SupplyInv (s : State) : Prop := OutputsInv s.bss ∧ RampInv s.bss ∧ LaneSupplyInv s

/-! ## Relay and queues (07, 10, 11) -/

/-- Where a status stands in a relay queue: DECIDED first, then IN_FLIGHT, then WAITING (07, R118). -/
def RequestStatus.rank : RequestStatus → Nat
  | .decided _ => 0
  | .inFlight => 1
  | .waiting => 2

/-- The relay of one lane (07, R118, R121, R126): at most 4 requests in the order DECIDED, at most one IN_FLIGHT,
WAITING; undecided ones only while the lane is UP; the answer timer runs with a request in flight alone, which then
heads the queue with no result held. -/
def RelayInv (s : State) : Prop :=
  ∀ i : Fin 4,
    s.bcr[i].queue.length ≤ 4 ∧
    (s.bcr[i].queue.map fun r => r.status.rank).Pairwise (· ≤ ·) ∧
    s.bcr[i].queue.countP (fun r => r.status == .inFlight) ≤ 1 ∧
    ((∃ r ∈ s.bcr[i].queue, r.decided = false) → s.slr.lanes[i].state = .up) ∧
    (s.bcr[i].timer = true ↔ ∃ r ∈ s.bcr[i].queue, r.status = .inFlight) ∧
    (s.bcr[i].timer = true →
      s.bcr[i].held = none ∧ s.bcr[i].queue.head?.map Request.status = some .inFlight) ∧
    (s.bcr[i].queue ≠ [] → s.bcr[i].timer = true ∨ s.bcr[i].held.isSome = true) ∧
    s.slr.lanes[i].retryLimit ≤ 3 ∧
    ∀ r ∈ s.bcr[i].queue, r.retries ≤ 3 ∧ r.payload.length ≤ 32

/-- The two queues of the agent (10, R159, R161, R162; 11, R174): each holds at most 8; claims wait only while Egress is
full; at most one notice is outstanding. -/
def QueueInv (s : State) : Prop :=
  s.lma.ingress.length ≤ 8 ∧ s.lma.egress.length ≤ 8 ∧
  (s.lma.room = true → s.lma.ingress = [] ∧ s.lma.noticePending = false ∧ ∀ i : Fin 4, s.bcr[i].held = none) ∧
  s.lma.egress.countP UpMessage.isNotice ≤ 1 ∧
  (s.lma.noticePending = true → s.lma.egress.countP UpMessage.isNotice = 0)

/-- The relay and the agent's queues together. -/
def ManagementInv (s : State) : Prop := RelayInv s ∧ QueueInv s

/-! ## Accessory channel (09) -/

/-- The ACU's invariant (09, R146, R148, R150, R155): the FIFOs hold at most 256 bytes; with the owner REMOTE and the
transmitter IDLE no byte waits; the tally outputs follow the tally state. -/
def AccessoryInv (a : Acu) : Prop :=
  a.down.length ≤ 256 ∧ a.up.length ≤ 256 ∧
  (a.owner = .remote → a.sending = none → a.down = []) ∧
  a.red = (a.tally == .onAir) ∧ a.green = (a.tally == .preview)

/-! ## Measurement (06) -/

/-- The measurement run (06, R103, R104, R106): a RUNNING run has lines to go; results are present in COMPLETE alone. -/
def MeasureInv (r : MeasureRun) : Prop :=
  r.n ≤ 65535 ∧
  (r.state = .running → r.lines < r.n) ∧
  (r.state ≠ .complete → r.applied = false ∧ ∀ i : Fin 16, r.results[i] = none)

/-! ## Flush -/

/-- A seam record with SumDiff and Lines at 0 (06, R116). -/
def SeamRecord.cleared (r : SeamRecord) : SeamRecord := { r with sumDiff := 0, lines := 0 }

/-- What a flush counts and raises at the agent (02, R38; 06, R109): one DROPPED_LINE for each record freed and one for
a line whose cells were unsent; MEASURE_DONE when it aborts a run. -/
def flushReport (s : State) (l : Lma) : Lma :=
  let l := l.addCount .droppedLine s.las.records.length
  let l := if s.tle.buffer = [] then l else l.addCount .droppedLine 1
  if s.ldu.run.state = .running then l.raise .measureDone else l

/-- The TLE after a flush (02, R38; 01, R12, R17). -/
def flushedTle (t : Tle) : Tle := { t with buffer := [], superframe := none }

/-- The LAS after a flush with no commit DRAINING (04, R81, R82). -/
def flushedLas (l : Las) : Las :=
  { l with records := [], currentBank := l.active, triggeredBank := l.active }

/-- The LDU after a flush with no commit DRAINING (06, R109, R116). -/
def flushedLdu (l : Ldu) : Ldu :=
  { l with seams := l.seams.map SeamRecord.cleared,
           run := if l.run.state = .running then { l.run with state := .aborted, cause := .flush } else l.run }

/-- The RTU after a relock that leaves the previous-marker record as it was (02, R37). -/
def relockedRtu (r : Rtu) : Rtu :=
  { r with timing := .locking, lp := none, lockCount := 0, lockRef := none, advance := none, wait := none, ticks := [],
           lastTick := none, deadline := none, missRun := 0, head := none, triggered := none }

/-! ## Supplies switched together -/

/-- The outputs after strobes have enabled theirs (08, R132, R136): ON, GOOD at once where the input is high, else with
the START timer running. -/
def Bss.switchedOn (ks : List Nat) (b : Bss) : Vector Supply 6 :=
  Vector.ofFn fun n =>
    if b.strobes[n] ∈ ks then
      { b.outputs[n] with
        enable := true
        good := b.outputs[n].good || b.outputs[n].input
        timer := if b.outputs[n].input then .none else .start }
    else b.outputs[n]

/-- The outputs after strobes have disabled theirs (08, R132, R139). -/
def Bss.switchedOff (ks : List Nat) (b : Bss) : Vector Supply 6 :=
  Vector.ofFn fun n =>
    if b.strobes[n] ∈ ks ∧ b.outputs[n].enable = true then
      { b.outputs[n] with enable := false, good := false, timer := .none, faultHeld := false }
    else b.outputs[n]

/-- Whether strobes bring a lane's supply to GOOD at once (08, R132, Table 9-1). -/
def Bss.brings (ks : List Nat) (b : Bss) (i : Fin 4) : Bool :=
  ks.contains b.strobes[outputOfLane i] && b.outputs[outputOfLane i].input

/-- Whether strobes take a GOOD supply from a lane (08, R132, Table 9-1). -/
def Bss.takes (ks : List Nat) (b : Bss) (i : Fin 4) : Bool :=
  ks.contains b.strobes[outputOfLane i] && b.outputs[outputOfLane i].enable && b.outputs[outputOfLane i].good

/-- A lane whose supply has become GOOD in OFF: ALIGNING, its alignment begun (03, R42 to R44). -/
def Lane.switchedOn (l : Lane) : Lane :=
  { l with state := .aligning, supplyGood := true, idleRun := 0, alignTimer := true, errCount := 0, candidate := none
           staleCount := 0, stale := false }

/-- A lane that has lost its supply: OFF (03, R42, R43). -/
def Lane.switchedOff (l : Lane) : Lane :=
  { l with state := .off, supplyGood := false, alignTimer := false, errCount := 0, candidate := none, staleCount := 0
           stale := false }

/-- The receivers with some lanes changed. -/
def Slr.change (p : Fin 4 → Bool) (f : Lane → Lane) (r : Slr) : Slr :=
  { r with lanes := Vector.ofFn fun i => if p i then f r.lanes[i] else r.lanes[i] }

/-- What is cut off when some lanes leave UP (03, R43, R47). -/
def Slr.cutOffs (p : Fin 4 → Bool) (r : Slr) : List Output :=
  (([0, 1, 2, 3] : List (Fin 4)).filter fun i => p i && r.lanes[i].state == .up).map .cutOff

/-- LANE_STATE is raised when some lane changes (03, R42). -/
def Lma.raiseLanes (p : Fin 4 → Bool) (l : Lma) : Lma :=
  if p 0 || p 1 || p 2 || p 3 then l.raise .laneState else l

/-- The lanes that some supplies bring up are OFF (03, R42). -/
def lanesAreOff (p : Fin 4 → Bool) (s : State) : Prop := ∀ i : Fin 4, p i = true → s.slr.lanes[i].state = .off

/-- The lanes that lose their supplies are not OFF and have no request (03, R42; 07, R118). -/
def lanesAreQuiet (p : Fin 4 → Bool) (s : State) : Prop :=
  ∀ i : Fin 4, p i = true → s.slr.lanes[i].state ≠ .off ∧ s.bcr[i].queue = [] ∧ s.bcr[i].timer = false

/-! ## What a tick does besides its line -/

/-- The stale count of a lane after one more tick: at most 9000 (03, R57). -/
def Lane.counted (l : Lane) : Nat := min 9000 (l.staleCount + 1)

/-- The receivers after a tick: each UP lane counts it, and one that reaches twice Total Lines is stale (03, R57). -/
def Slr.ticked (total : Nat) (r : Slr) : Slr :=
  { r with lanes := Vector.ofFn fun i =>
      if r.lanes[i].state = .up then
        { r.lanes[i] with
          staleCount := r.lanes[i].counted
          stale := r.lanes[i].stale || decide (2 * total ≤ r.lanes[i].counted) }
      else r.lanes[i] }

/-- Whether a tick begins a stale episode on some lane (03, R57). -/
def Slr.episode (total : Nat) (r : Slr) : Bool :=
  ([0, 1, 2, 3] : List (Fin 4)).any fun i =>
    r.lanes[i].state == .up && !r.lanes[i].stale && decide (2 * total ≤ r.lanes[i].counted)

/-- STATUS_STALE is raised when an episode begins (03, R57). -/
def Lma.staleReport (total : Nat) (r : Slr) (l : Lma) : Lma := if r.episode total then l.raise .statusStale else l

/-- The Frame Starts of a tick: one to each UP lane if the tick triggers a frame (02, R39). -/
def Slr.frameStarts (g : Option (Fin 16)) (r : Slr) : List Output :=
  match g with
  | some g =>
    (([0, 1, 2, 3] : List (Fin 4)).filter fun i => r.lanes[i].state == .up).map fun i => .downlink i (.frameStart g)
  | none => []

/-- The store after a tick's trigger test, its commit PENDING, DRAINING or none (04, R77), and after its choice of the
current-frame bank when it is not of the frame of the tick before (04, R76). -/
def Las.ticked (r : Rtu) (l : Label) (x : Las) : Las :=
  let g := triggerOf r.settings l
  let x := if g.isNone then x else
    { x with
      triggeredBank := if x.commit = .none then x.active else x.target.getD x.active
      commit := if x.commit = .none then .none else .draining
      switchFrame := if x.commit = .pending then g else x.switchFrame }
  if r.head.map Label.frame = some l.frame then x
  else { x with currentBank := if g.or r.triggered = some l.frame then x.triggeredBank else x.active }

/-- The head tick counter, the ticks still scheduled and the triggered frame after a tick (02, R32, R39). -/
def Rtu.ticked (l : Label) (rest : List Tick) (r : Rtu) : Rtu :=
  { r with head := some l, ticks := rest, triggered := (triggerOf r.settings l).or r.triggered }

/-- The probe record after one more event that ages it (02, R25). -/
def Rtu.aged (r : Rtu) : Rtu :=
  match r.probe with
  | none => r
  | some p =>
    if p.age = 63 then { r with probe := none, abandonRun := min 255 (r.abandonRun + 1) }
    else { r with probe := some { p with age := p.age + 1 } }

/-- What an abandonment at such an event counts and raises (02, R25). -/
def Lma.probeReport (r : Rtu) (l : Lma) : Lma :=
  match r.probe with
  | none => l
  | some p =>
    if p.age = 63 then
      (if r.abandonRun + 1 = 8 then (l.addCount .probeMiss 1).raise .probeLost else l.addCount .probeMiss 1)
    else l

/-- A new probe is outstanding at a time (02, R23). -/
def Rtu.issued (now : Nat) (r : Rtu) : Rtu :=
  { r with lastProbeId := r.lastProbeId + 1, probe := some { id := r.lastProbeId + 1, sent := now, age := 0 } }

/-- No schedule flip falls on a tick, and no commit waits for a record to be freed (04, R78, R79). -/
def noFlipAt (l : Label) (s : State) : Prop :=
  s.las.flipMark = false ∧
    ¬(s.las.commit = .draining ∧ s.las.switchFrame = some l.frame ∧ l.num = s.rtu.settings.latency)

/-- The STATUS cell of the moment (01, R13; the alert summary is that of the flags the tick finds: log 12). -/
def State.statusNow (probe : Option Byte) (s : State) : UpCell :=
  .status
    { probe := probe, timing := s.rtu.timing, profile := s.tle.profile, power := s.bss.power
      lanes := Vector.ofFn fun i => s.slr.lanes[i].state
      callCount := s.acu.callCount, summary := s.lma.summary, depth := s.tle.degrade.depth
      indication := s.tle.degrade.indication }

/-- The seam records after the decision of the frame end (06, R113, R114), at the tick that is one. -/
def decidedAt (t : TimingSettings) (l : Label) (g : SeamSettings) (rs : List SeamRecord) : List SeamRecord :=
  if l.num + 1 = t.active + t.latency then rs.map fun r => (decideSeam g r).1 else rs

/-- SEAM is raised when a record changes its state at the frame end (06, R114). -/
def Lma.seamReport (t : TimingSettings) (l : Label) (g : SeamSettings) (rs : List SeamRecord) (a : Lma) : Lma :=
  if l.num + 1 = t.active + t.latency ∧ ∃ r ∈ rs, (decideSeam g r).2 = true then a.raise .seam else a

/-- A seam record after a departed line (06, R112): with both its entries present, one line more and the difference of
the averages of the 8 corrected samples on each side of the seam; else as it was. -/
def SeamRecord.fedBy (es : List Place) (present : List Segment) (ds : List Departing) (r : SeamRecord) : SeamRecord :=
  let there := fun (p : Place) => present.any fun x => x.lane == p.lane && x.segment == p.segment
  match es[r.left - 1]?, es[r.left]?, ds[r.left - 1]?, ds[r.left]? with
  | some p, some q, some a, some b =>
    if there p && there q then
      { r with
        sumDiff := r.sumDiff +
          (((a.corrected.drop (a.corrected.length - 8)).sum / 8 : Nat) : Int) - (((b.corrected.take 8).sum / 8 : Nat) : Int)
        lines := r.lines + 1 }
    else r
  | _, _, _, _ => r

/-! ## One lane, and the agent at rest -/

/-- The receivers with one lane put in another state. -/
def Slr.setLane (r : Slr) (i : Fin 4) (l : Lane) : Slr := { r with lanes := r.lanes.set i l }

/-- A message that arrives is performed at once, and nothing waits for a place of Egress: Ingress is empty, Egress has
room and no lane has a result to deliver (10, R160, R162). -/
def AtRest (s : State) : Prop :=
  s.lma.ingress = [] ∧ s.lma.egress.length < 8 ∧ ∀ i : Fin 4, s.bcr[i].headDecided = false

end Sys2Proof.Machine
end

