-- ==== Sys2Proof/Certificates/Slice0/Obligations.lean ====
section
/-! DEFINITION. The statements for the provers. -/

open Sys2Proof Sys2Proof.Machine

/-! ## The step and the state after reset -/

/-- A step takes the command at the front of the queue and runs it with the queue's rest. On an empty queue no event comes:
in TRAINING a training block of Table 13-7 begins on the cable (R4, R23, R178), an idle word fills each downlink of a lane
that is not OFF (R46, R48, Table 4-2), and nothing else changes; that an empty queue stands for such a moment is the
model's choice (log 8). -/
def Obligations.StepRunsFrontCommand : Prop :=
  (∀ (s : State) (c : Instr) (rest : List Instr), s.pending = c :: rest → step s = exec c { s with pending := rest }) ∧
  (∀ s : State, s.pending = [] →
    let covered : List Byte :=
      [0x7E, 0x81, 0x7E, 0x81, BitVec.ofNat 8 s.tle.profile.number] ++
        (match s.rtu.probe with
        | none => [0, 0]
        | some p => [1, p.id]) ++ [0, 0, 0, 0, 0]
    let check : List Byte :=
      [(crc32 covered >>> 24).setWidth 8, (crc32 covered >>> 16).setWidth 8, (crc32 covered >>> 8).setWidth 8,
        (crc32 covered).setWidth 8]
    step s = .next { s with
      out := (if s.tle.link = .training then [.trainingBlock (covered ++ check)] else []) ++
        (([0, 1, 2, 3] : List (Fin 4)).filter fun i => s.slr.lanes[i].state != .off).map fun i => .idleWord i 0 })

/-- R83: the Line Assembly Store after power-on reset, and what that makes of every tile packet of an active line. -/
def Obligations.ResetLineAssemblyStore : Prop :=
  State.reset.las.records = [] ∧
  (∀ bank : Bank, (State.reset.las.map bank).count = 0 ∧
    ∀ k : Fin 16, (State.reset.las.map bank).places[k] =
      { lane := 0, segment := 0, width := 1, correction := 0, seam := false }) ∧
  State.reset.las.active = .a ∧
  State.reset.las.currentBank = .a ∧ State.reset.las.triggeredBank = .a ∧
  State.reset.las.commit = .none ∧ State.reset.las.target = none ∧ State.reset.las.switchFrame = none ∧
  State.reset.las.flipMark = false ∧
  State.reset.rtu.head = none ∧ State.reset.rtu.triggered = none ∧
  (∀ (s : State) (lane : Fin 4) (p : TilePacket), s.rtu.timing.ticking = false → TimingInv s.rtu →
    p.line < s.rtu.settings.active → acceptance lane p s = .discarded .early)

/-- What the reset tables of the manual's chapters give each block (Tables 2-3, 3-2, 4-3, 6-1, 7-2, 8-1, 9-3, 10-1, 12-1)
and the rules they gather. A value they do not state is not stated here. -/
def Obligations.ResetBlocksOfThePart : Prop :=
  (State.reset.tle.link = .down ∧ State.reset.tle.profile = .p4 ∧ State.reset.tle.cap = .p4 ∧
    State.reset.tle.restartWait = false ∧ State.reset.tle.attemptTimer = false ∧ State.reset.tle.badRun = 0 ∧
    State.reset.tle.active = .a ∧ State.reset.tle.buffer = [] ∧
    State.reset.tle.degrade = { depth := .d12, truncating := false, v := 0, indication := .none }) ∧
  (∀ bank : Bank, (State.reset.tle.sched bank).depth = .d12 ∧
    ∀ k : Nat, 1 ≤ k → k ≤ 63 →
      (State.reset.tle.sched bank).entry k = if k = 1 then .mgmt else if k = 2 then .aux else .fill) ∧
  (State.reset.rtu.timing = .free ∧
    State.reset.rtu.settings = { total := 1125, active := 1080, latency := 4, lead := 2, offset := 0 } ∧
    State.reset.rtu.prev = none ∧ State.reset.rtu.lp = none ∧ State.reset.rtu.lockCount = 0 ∧
    State.reset.rtu.dapp = none ∧ State.reset.rtu.lastDelay = none ∧ State.reset.rtu.advance = none ∧
    State.reset.rtu.wait = none ∧ State.reset.rtu.ticks = [] ∧ State.reset.rtu.deadline = none ∧
    State.reset.rtu.missRun = 0 ∧ State.reset.rtu.head = none ∧ State.reset.rtu.triggered = none ∧
    State.reset.rtu.lastProbeId = 255 ∧ State.reset.rtu.probe = none ∧ State.reset.rtu.abandonRun = 0) ∧
  (∀ i : Fin 4, State.reset.slr.lanes[i].state = .off ∧ State.reset.slr.lanes[i].supplyGood = false ∧
    State.reset.slr.lanes[i].idleRun = 0 ∧ State.reset.slr.lanes[i].alignTimer = false ∧
    State.reset.slr.lanes[i].errCount = 0 ∧ State.reset.slr.lanes[i].lastWord = none ∧
    State.reset.slr.lanes[i].candidate = none ∧ State.reset.slr.lanes[i].latched = 0 ∧
    State.reset.slr.lanes[i].eventMark = false ∧ State.reset.slr.lanes[i].staleCount = 0 ∧
    State.reset.slr.lanes[i].stale = false ∧ State.reset.slr.lanes[i].errThreshold = 4 ∧
    State.reset.slr.lanes[i].retryLimit = 2 ∧ State.reset.slr.lanes[i].watchMode = .event ∧
    State.reset.slr.lanes[i].watchMask = 0 ∧ State.reset.slr.lanes[i].watchCompare = 0 ∧
    State.reset.bcr[i] = { queue := [], timer := false, held := none }) ∧
  State.reset.slr.seam = { threshold := 32, hysteresis := 4, queue := 2 } ∧
  (∀ k : Fin 16, State.reset.ldu.correction[k] = { black := 0, gain := 16384, pedestal := 0 } ∧
    State.reset.ldu.held[k].valid = false ∧ State.reset.ldu.run.acc[k] = { sum := 0, count := 0 } ∧
    State.reset.ldu.run.results[k] = none) ∧
  (State.reset.ldu.run.state = .idle ∧ State.reset.ldu.run.n = 0 ∧ State.reset.ldu.run.apply = false ∧
    State.reset.ldu.run.lines = 0 ∧ State.reset.ldu.run.cause = .none ∧ State.reset.ldu.run.applied = false ∧
    State.reset.ldu.seams = []) ∧
  (State.reset.bss.power = .dormant ∧ State.reset.bss.nextStrobe = none ∧ State.reset.bss.delay = none ∧
    State.reset.bss.cause = .none ∧ State.reset.bss.marks = 0 ∧
    State.reset.bss.strobes = #v[2, 2, 2, 2, 1, 3] ∧ State.reset.bss.delays = #v[2, 2, 2, 2]) ∧
  (∀ n : Fin 6, State.reset.bss.outputs[n].enable = false ∧ State.reset.bss.outputs[n].good = false ∧
    State.reset.bss.outputs[n].timer = .none ∧ State.reset.bss.outputs[n].faultHeld = false) ∧
  (State.reset.acu.down = [] ∧ State.reset.acu.up = [] ∧ State.reset.acu.downEscape = false ∧
    State.reset.acu.upEscape = false ∧ State.reset.acu.sending = none ∧ State.reset.acu.owner = .remote ∧
    State.reset.acu.callCount = 0 ∧ State.reset.acu.armed = false ∧ State.reset.acu.prevSample = none ∧
    State.reset.acu.tally = .off ∧ State.reset.acu.red = false ∧ State.reset.acu.green = false ∧
    State.reset.acu.portRate = .r38400) ∧
  (State.reset.lma.ingress = [] ∧ State.reset.lma.noticePending = false ∧ State.reset.lma.rotation = 3 ∧
    (∀ g : Flag, State.reset.lma.flag g = (g == .powerOn)) ∧ State.reset.lma.masks = 0 ∧
    State.reset.lma.egress = [.alertNotice Flag.powerOn.bit] ∧ ∀ c : Counter, State.reset.lma.counter c = 0)

/-- POWER_ON_RESET: without carrier the part takes its power-on state, whatever it was; with carrier the link then starts
training at P4. The levels of the input pins and the commands waiting stay, which is the model's choice (logs 9, 10). -/
def Obligations.PowerOnResetCommand : Prop :=
  ∀ s : State,
    (s.tle.carrier = false →
      exec .powerOnReset s = .next
        { State.reset with
          bss := { resetBss with outputs := Vector.ofFn fun n =>
            { enable := false, good := false, timer := .none, faultHeld := false, input := s.bss.outputs[n].input } }
          pending := s.pending }) ∧
    (s.tle.carrier = true →
      exec .powerOnReset s = .next
        { State.reset with
          tle := { resetTle with carrier := true, link := .training, attemptTimer := true }
          bss := { resetBss with outputs := Vector.ofFn fun n =>
            { enable := false, good := false, timer := .none, faultHeld := false, input := s.bss.outputs[n].input } }
          lma := State.reset.lma.raise .linkState
          pending := s.pending })

/-! ## The words of the agent -/

/-- R175 of one count: the amount is added and the result stops at 65535; every other counter, and everything else the
agent holds, stays. -/
def Obligations.CountingStopsAtTheLimit : Prop :=
  ∀ (l : Lma) (c : Counter) (k : Nat),
    ((l.addCount c k).counter c).toNat = min 65535 ((l.counter c).toNat + k) ∧
    (∀ d : Counter, d ≠ c → (l.addCount c k).counter d = l.counter d) ∧
    (l.addCount c k).flags = l.flags ∧ (l.addCount c k).masks = l.masks ∧ (l.addCount c k).egress = l.egress ∧
    (l.addCount c k).ingress = l.ingress ∧ (l.addCount c k).noticePending = l.noticePending ∧
    (l.addCount c k).rotation = l.rotation

/-- R171 and R174 of one raise: the flag is SET and no other changes; an UNMASKED flag that was CLEAR gives rise to one
notice, in Egress when it has room and else pending, unless one is outstanding; a flag that was SET or is MASKED gives
rise to none. -/
def Obligations.RisingRaiseGivesOneNotice : Prop :=
  ∀ (l : Lma) (g : Flag),
    (∀ d : Flag, (l.raise g).flag d = (l.flag d || d == g)) ∧
    ((l.flag g = true ∨ l.masks.getLsbD g.index = true) → (l.raise g).placeNotice l.flags = l.raise g) ∧
    (l.flag g = false → l.masks.getLsbD g.index = false →
      (l.noticeOutstanding = true → (l.raise g).placeNotice l.flags = l.raise g) ∧
      (l.noticeOutstanding = false → l.egress.length < 8 →
        (l.raise g).placeNotice l.flags =
          { l.raise g with egress := l.egress ++ [.alertNotice (l.raise g).flags] }) ∧
      (l.noticeOutstanding = false → 8 ≤ l.egress.length →
        (l.raise g).placeNotice l.flags = { l.raise g with noticePending := true }))

/-! ## What every step keeps -/

/-- The link's invariant holds after every step, from every state that has it and the RTU's. -/
def Obligations.EveryStepKeepsLink : Prop :=
  ∀ s s' : State, LinkInv s → TimingInv s.rtu → step s = .next s' → LinkInv s'

/-- The RTU's invariant holds after every step: settings in range, Lp in range, the held advance and wait, the miss run
and the labels of ticks. -/
def Obligations.EveryStepKeepsTiming : Prop :=
  ∀ s s' : State, TimingInv s.rtu → step s = .next s' → TimingInv s'.rtu

/-- The commit's invariant holds after every step: the active map is valid and the two active banks are one. -/
def Obligations.EveryStepKeepsCommit : Prop :=
  ∀ s s' : State, CommitInv s → step s = .next s' → CommitInv s'

/-- After every step at most 16 line records are in use, no two of one line. -/
def Obligations.EveryStepKeepsRecords : Prop :=
  ∀ s s' : State, RecordsInv s.las → step s = .next s' → RecordsInv s'.las

/-- After every step outputs, ramp and lanes agree: a lane is OFF exactly while its supply is not ON and GOOD, and in
DORMANT every output is OFF. -/
def Obligations.EveryStepKeepsSupply : Prop :=
  ∀ s s' : State, SupplyInv s → step s = .next s' → SupplyInv s'

/-- After every step the relay queues and the agent's two queues keep their form: undecided requests stand in an UP lane
alone, and claims wait only while Egress is full. -/
def Obligations.EveryStepKeepsManagement : Prop :=
  ∀ s s' : State, ManagementInv s → step s = .next s' → ManagementInv s'

/-- After every step the aux FIFOs hold at most 256 bytes, nothing waits behind an IDLE transmitter of a REMOTE owner,
and the tally outputs follow the tally state. -/
def Obligations.EveryStepKeepsAccessory : Prop :=
  ∀ s s' : State, AccessoryInv s.acu → step s = .next s' → AccessoryInv s'.acu

/-- After every step a RUNNING measurement has lines to go, and results are present in COMPLETE alone. -/
def Obligations.EveryStepKeepsMeasurement : Prop :=
  ∀ s s' : State, MeasureInv s.ldu.run → step s = .next s' → MeasureInv s'.ldu.run

/-- The state after reset meets every invariant above. -/
def Obligations.ResetMeetsInvariants : Prop :=
  LinkInv State.reset ∧ TimingInv State.reset.rtu ∧ CommitInv State.reset ∧ RecordsInv State.reset.las ∧
  SupplyInv State.reset ∧ ManagementInv State.reset ∧ AccessoryInv State.reset.acu ∧
  MeasureInv State.reset.ldu.run

/-! ## The link (01) -/

/-- CARRIER_GAINED in DOWN without a restart wait starts training at the cap; in every other state only the carrier is
noted. CARRIER_LOST ends TRAINING and ONLINE in DOWN with no restart wait; leaving ONLINE ends the superframe and empties
the Departure Buffer, with one DROPPED_LINE when it held a cell; in DOWN only the carrier is noted. -/
def Obligations.CarrierGainedAndLost : Prop :=
  ∀ s : State,
    (s.tle.link = .down → s.tle.restartWait = false →
      exec .carrierGained s = .next { s with
        tle := { s.tle with carrier := true, link := .training, profile := s.tle.cap, goodRun := 0,
                            attemptTimer := true }
        lma := (s.lma.raise .linkState).placeNotice s.lma.flags
        out := [] }) ∧
    (s.tle.link ≠ .down ∨ s.tle.restartWait = true →
      exec .carrierGained s = .next { s with tle := { s.tle with carrier := true }, out := [] }) ∧
    (s.tle.link = .down →
      exec .carrierLost s = .next { s with tle := { s.tle with carrier := false }, out := [] }) ∧
    (s.tle.link = .training →
      exec .carrierLost s = .next { s with
        tle := { s.tle with carrier := false, link := .down, attemptTimer := false, restartWait := false, badRun := 0 }
        lma := (s.lma.raise .linkState).placeNotice s.lma.flags
        out := [] }) ∧
    (s.tle.link = .online →
      exec .carrierLost s = .next { s with
        tle := { s.tle with carrier := false, link := .down, attemptTimer := false, restartWait := false, badRun := 0,
                            superframe := none, buffer := [] }
        lma := ((if s.tle.buffer = [] then s.lma else s.lma.addCount .droppedLine 1).raise .linkState).placeNotice
          s.lma.flags
        out := [] })

/-- RESTART_WAIT_EXPIRY and ATTEMPT_TIMER_EXPIRY. A timer that does not run does not expire, which is the model's choice
(log 1). -/
def Obligations.LinkTimersExpire : Prop :=
  ∀ s : State,
    (s.tle.link = .down → s.tle.restartWait = true → s.tle.carrier = true →
      exec .restartWaitExpiry s = .next { s with
        tle := { s.tle with restartWait := false, link := .training, profile := s.tle.cap, goodRun := 0,
                            attemptTimer := true }
        lma := (s.lma.raise .linkState).placeNotice s.lma.flags
        out := [] }) ∧
    (s.tle.restartWait = true → s.tle.carrier = false →
      exec .restartWaitExpiry s = .next { s with tle := { s.tle with restartWait := false }, out := [] }) ∧
    (s.tle.restartWait = false → exec .restartWaitExpiry s = .next { s with out := [] }) ∧
    (∀ p, s.tle.link = .training → s.tle.attemptTimer = true → s.tle.profile.lower = some p →
      exec .attemptTimerExpiry s = .next { s with
        tle := { s.tle with profile := p, goodRun := 0, attemptTimer := true }, out := [] }) ∧
    (s.tle.link = .training → s.tle.attemptTimer = true → s.tle.profile = .p1 →
      exec .attemptTimerExpiry s = .next { s with
        tle := { s.tle with link := .down, attemptTimer := false, restartWait := true }
        lma := (s.lma.raise .linkState).placeNotice s.lma.flags
        out := [] }) ∧
    (s.tle.link ≠ .training ∨ s.tle.attemptTimer = false →
      exec .attemptTimerExpiry s = .next { s with out := [] })

/-- SUPERFRAME_ARRIVAL of a bad superframe: its only effects are on the runs; the sixteenth in a row in ONLINE sends the
link to TRAINING at its profile. In DOWN no superframe, good or bad, is checked. That the run keeps its value after it
has left ONLINE is the model's reading (log 5). -/
def Obligations.BadSuperframeActsOnTheRunsAlone : Prop :=
  ∀ (s : State) (bytes : List Byte) (time : Nat) (order : List Part),
    (s.tle.link = .down → exec (.superframeArrival bytes time order) s = .next { s with out := [] }) ∧
    (parseSuperframe bytes = none →
      (s.tle.link = .training →
        exec (.superframeArrival bytes time order) s = .next { s with tle := { s.tle with goodRun := 0 }, out := [] }) ∧
      (s.tle.link = .online → s.tle.badRun + 1 < 16 →
        exec (.superframeArrival bytes time order) s = .next { s with
          tle := { s.tle with badRun := s.tle.badRun + 1 }, out := [] }) ∧
      (s.tle.link = .online → 16 ≤ s.tle.badRun + 1 →
        exec (.superframeArrival bytes time order) s = .next { s with
          tle := { s.tle with badRun := s.tle.badRun + 1, link := .training, goodRun := 0, attemptTimer := true,
                              superframe := none, buffer := [] }
          lma := ((if s.tle.buffer = [] then s.lma else s.lma.addCount .droppedLine 1).raise .linkState).placeNotice
            s.lma.flags
          out := [] }))

/-- R177: when a downstream superframe is good, and what is read from it then. -/
def Obligations.SuperframeIsGoodExactlyWhen : Prop :=
  ∀ bs : List Byte,
    (parseSuperframe bs ≠ none ↔
      (byteAt bs 7).toNat ≤ 2 ∧ (byteAt bs 8).toNat ≤ 64 ∧ (byteAt bs 3).toNat ≤ 1 ∧
      (byteAt bs 2).toNat / 16 % 4 ≤ 2 ∧
      13 + 246 * (byteAt bs 7).toNat + (byteAt bs 8).toNat ≤ bs.length ∧
      (crc32 (bs.take (9 + 246 * (byteAt bs 7).toNat + (byteAt bs 8).toNat))).toNat =
        numberAt bs (9 + 246 * (byteAt bs 7).toNat + (byteAt bs 8).toNat) 4) ∧
    (∀ d, parseSuperframe bs = some d →
      d.line = 256 * (byteAt bs 0).toNat + (byteAt bs 1).toNat ∧
      d.tag.val = (byteAt bs 2).toNat % 16 ∧
      d.tally.code = (byteAt bs 2).toNat / 16 % 4 ∧
      (byteAt bs 3 = 0#8 → d.echo = none) ∧
      (byteAt bs 3 = 1#8 →
        d.echo = some { id := byteAt bs 4, hold := 256 * (byteAt bs 5).toNat + (byteAt bs 6).toNat }) ∧
      d.cells.length = (byteAt bs 7).toNat ∧ d.aux.length = (byteAt bs 8).toNat ∧
      (∀ i m, d.cells[i]? = some m →
        m.kind = byteAt bs (9 + 246 * i) ∧ m.tag = byteAt bs (10 + 246 * i) ∧
        m.table = byteAt bs (11 + 246 * i) ∧ m.index = byteAt bs (12 + 246 * i) ∧
        m.count = byteAt bs (13 + 246 * i) ∧ m.length = byteAt bs (14 + 246 * i) ∧
        m.body = (bs.drop (15 + 246 * i)).take 240) ∧
      (∀ i b, d.aux[i]? = some b → b = byteAt bs (9 + 246 * (byteAt bs 7).toNat + i)))

/-- A good superframe hands its management cells to Ingress and its aux bytes to the ACU, each in the order they stand
in it; here after a marker that FREE ignores, and with the parts of one kind alone, so that no order between blocks
shows (log 4). -/
def Obligations.GoodSuperframeHandsOverItsParts : Prop :=
  ∀ (s : State) (bytes : List Byte) (time : Nat) (order : List Part) (d : Downstream),
    parseSuperframe bytes = some d → s.tle.link = .online → s.rtu.timing = .free → s.rtu.settings.total ≤ d.line →
    d.echo = none →
      (d.aux = [] →
        exec (.superframeArrival bytes time (.marker :: order)) s =
          .next (d.cells.foldl offer { s with tle := { s.tle with badRun := 0 }, out := [] })) ∧
      (d.cells = [] →
        exec (.superframeArrival bytes time (.marker :: order)) s =
          .next (d.aux.foldl (fun s b => event (fun s => takeAuxByte s b) s)
            { s with tle := { s.tle with badRun := 0 }, out := [] }))

/-- A good superframe in TRAINING (R4, R5, R19, R23): a run below the sixty-fourth goes on; the sixty-fourth brings the link
ONLINE at the attempt's profile with PROFILE_DROP below the cap, and the recomputed ladder raises DEGRADED where it is worse
than the result before. Either way a probe is issued when none is outstanding. The marker is one that FREE ignores. -/
def Obligations.GoodSuperframeInTraining : Prop :=
  ∀ (s : State) (bytes : List Byte) (time : Nat) (order : List Part) (d : Downstream),
    parseSuperframe bytes = some d → d.echo = none → d.cells = [] → d.aux = [] →
    s.tle.link = .training → s.rtu.timing = .free → s.rtu.settings.total ≤ d.line →
      let rtu : Rtu :=
        if s.rtu.probe = none then
          { s.rtu with lastProbeId := s.rtu.lastProbeId + 1
                       probe := some { id := s.rtu.lastProbeId + 1, sent := time, age := 0 } }
        else s.rtu
      let old := s.tle.degrade
      let new := ladder (s.tle.sched s.tle.active) (totalWidth (s.las.map s.las.active).entries) s.tle.profile.budget
      (s.tle.goodRun + 1 < 64 →
        exec (.superframeArrival bytes time order) s = .next { s with
          tle := { s.tle with goodRun := s.tle.goodRun + 1 }, rtu := rtu, out := [] }) ∧
      (s.tle.goodRun = 63 →
        exec (.superframeArrival bytes time order) s = .next { s with
          tle := { s.tle with link := .online, goodRun := 64, attemptTimer := false, badRun := 0, degrade := new }
          rtu := rtu
          lma :=
            (let l := s.lma.raise .linkState
             let l := if s.tle.profile.number < s.tle.cap.number then l.raise .profileDrop else l
             if new.indication ≠ .none ∧
                 (old.indication = .none ∨ new.depth.bits < old.depth.bits ∨
                   new.truncating = true ∧ old.truncating = false) then l.raise .degraded
             else l).placeNotice s.lma.flags
          out := [] })

/-! ## Markers and echoes in a superframe (02) -/

/-- An expected marker with a tick phase held (R22, R31 to R35). In LOCKED: Lp, the record, the deadline, the tick at arrival
plus the wait held before, the tally, and the wait recomputed with the held advance; a recomputed wait out of range
relocks, here with no commit DRAINING; an interval out of range counts BAD_INTERVAL and leaves Lp and the wait. In HOLDOVER
the marker that the miss run lets the RTU expect brings LOCKED again and forms no interval. A tick that waits for the new
tick's time or later is emitted first, at the marker's arrival (R32): the next state is then that of HEAD_LINE_TICK at that
time, in the state in which the interval, the record and the deadline are taken, with the new tick scheduled after it; of
several ticks every one is emitted, in their order. The superframe carries nothing else and the link is ONLINE. -/
def Obligations.ExpectedMarkerSchedulesItsTick : Prop :=
  ∀ (s : State) (bytes : List Byte) (time : Nat) (order : List Part) (d : Downstream) (p : MarkerRecord)
    (lp da j w : Nat),
    parseSuperframe bytes = some d → d.echo = none → d.cells = [] → d.aux = [] → s.tle.link = .online →
    s.rtu.prev = some p → s.rtu.lp = some lp → s.rtu.dapp = some da → s.rtu.advance = some j → s.rtu.wait = some w →
    w < lp → w + (2 * da + s.rtu.settings.offset) = j * lp → d.line < s.rtu.settings.total →
      let total := s.rtu.settings.total
      let need := 2 * da + s.rtu.settings.offset
      let record : MarkerRecord := { line := d.line, tag := d.tag, time := time }
      let tick : Tick :=
        { label := { frame := d.tag + Fin.ofNat 16 ((d.line + j) / total), num := (d.line + j) % total }
          time := time + w }
      let acu : Acu := { s.acu with tally := d.tally, red := d.tally == .onAir, green := d.tally == .preview }
      let taken : Rtu := { s.rtu with prev := some record, deadline := some (time + lp + 64) }
      let followed : Rtu := { taken with ticks := s.rtu.ticks ++ [tick], lastTick := some tick }
      let early : Prop := ∀ x ∈ s.rtu.ticks, x.time < time + w
      let emitting := fun (x : Tick) (rtu : Rtu) (l : Lma) => { s with
        tle := { s.tle with badRun := 0 }, rtu := { rtu with ticks := [{ x with time := time }] }, lma := l }
      let scheduled := fun (v : State) (wait : Nat) => { v with
        rtu := { v.rtu with ticks := [tick], lastTick := some tick, wait := some wait }
        acu := acu
        lma := v.lma.placeNotice s.lma.flags }
      let allEmitted : Prop := ∀ (earlier : List Tick) (last : Tick), s.rtu.ticks = earlier ++ [last] →
        (∃ x ∈ s.rtu.ticks, time + w ≤ x.time) →
          ∃ u, exec (.superframeArrival bytes time order) s = .next u ∧
            u.rtu.ticks = [tick] ∧ u.rtu.lastTick = some tick ∧ u.rtu.head = some last.label
      (s.rtu.timing = .locked → p.line < total → d.line = (p.line + 1) % total →
        d.tag = (if d.line = 0 then p.tag + 1 else p.tag) →
        (∀ i : Nat, time = p.time + i → 1000 ≤ i → i ≤ 65535 →
          let lp' := (3 * lp + i + 2) / 4
          let taken' : Rtu := { taken with lp := some lp', deadline := some (time + lp' + 64) }
          (∀ w' : Nat, w' + need = j * lp' → w' < lp' →
            (early →
              exec (.superframeArrival bytes time order) s = .next { s with
                tle := { s.tle with badRun := 0 }
                rtu := { followed with lp := some lp', deadline := some (time + lp' + 64), wait := some w' }
                acu := acu
                out := [] }) ∧
            (∀ x : Tick, s.rtu.ticks = [x] → time + w ≤ x.time →
              ∃ v, exec .headLineTick (emitting x taken' s.lma) = .next v ∧
                exec (.superframeArrival bytes time order) s = .next (scheduled v w')) ∧
            allEmitted) ∧
          (j * lp' < need ∨ need + lp' ≤ j * lp' →
            (early → s.las.commit ≠ .draining →
              exec (.superframeArrival bytes time order) s = .next { s with
                tle := { flushedTle s.tle with badRun := 0 }
                rtu := { relockedRtu s.rtu with prev := some record }
                las := flushedLas s.las
                ldu := flushedLdu s.ldu
                acu := acu
                lma := ((flushReport s s.lma).raise .timingState).placeNotice s.lma.flags
                out := [] }) ∧
            (∀ x : Tick, s.rtu.ticks = [x] → time + w ≤ x.time →
              ∃ v, exec .headLineTick (emitting x taken' s.lma) = .next v ∧
                (v.las.commit ≠ .draining → v.lma.flags = s.lma.flags →
                  exec (.superframeArrival bytes time order) s = .next { v with
                    tle := flushedTle v.tle
                    rtu := { relockedRtu v.rtu with prev := some record }
                    las := flushedLas v.las
                    ldu := flushedLdu v.ldu
                    acu := acu
                    lma := ((flushReport v v.lma).raise .timingState).placeNotice s.lma.flags })))) ∧
        (time < p.time + 1000 ∨ p.time + 65535 < time →
          (early →
            exec (.superframeArrival bytes time order) s = .next { s with
              tle := { s.tle with badRun := 0 }, rtu := followed, acu := acu, lma := s.lma.addCount .badInterval 1
              out := [] }) ∧
          (∀ x : Tick, s.rtu.ticks = [x] → time + w ≤ x.time →
            ∃ v, exec .headLineTick (emitting x taken (s.lma.addCount .badInterval 1)) = .next v ∧
              exec (.superframeArrival bytes time order) s = .next (scheduled v w)) ∧
          allEmitted)) ∧
      (s.rtu.timing = .holdover → d.line = (p.line + s.rtu.missRun + 1) % total →
        d.tag = p.tag + Fin.ofNat 16 ((p.line + s.rtu.missRun + 1) / total) →
          (early →
            exec (.superframeArrival bytes time order) s = .next { s with
              tle := { s.tle with badRun := 0 }
              rtu := { followed with timing := .locked, missRun := 0 }
              acu := acu
              lma := (s.lma.raise .timingState).placeNotice s.lma.flags
              out := [] }) ∧
          (∀ x : Tick, s.rtu.ticks = [x] → time + w ≤ x.time →
            ∃ v, exec .headLineTick
                (emitting x { taken with timing := .locked, missRun := 0 } (s.lma.raise .timingState)) = .next v ∧
              exec (.superframeArrival bytes time order) s = .next (scheduled v w)) ∧
          allEmitted)

/-- A marker in LOCKED or HOLDOVER that is not the expected one makes the RTU relock (R31, R35, R37), here with no commit
DRAINING: a valid one with another line number, a valid one with the expected line number and another frame tag, and an
invalid one. A valid one hands over its tally and becomes the record; an invalid one makes the record absent. That in
LOCKED the marker with the right line number and a wrong tag has its interval judged, so that BAD_INTERVAL may be counted,
is the model's reading (log 19). -/
def Obligations.UnexpectedMarkerRelocks : Prop :=
  ∀ (s : State) (bytes : List Byte) (time : Nat) (order : List Part) (d : Downstream) (p : MarkerRecord),
    parseSuperframe bytes = some d → d.echo = none → d.cells = [] → d.aux = [] →
    s.tle.link = .online → s.rtu.prev = some p → s.las.commit ≠ .draining →
      let total := s.rtu.settings.total
      let relocked := fun (record : Option MarkerRecord) (acu : Acu) (l : Lma) => { s with
        tle := { flushedTle s.tle with badRun := 0 }
        rtu := { relockedRtu s.rtu with prev := record }
        las := flushedLas s.las
        ldu := flushedLdu s.ldu
        acu := acu
        lma := ((flushReport s l).raise .timingState).placeNotice s.lma.flags
        out := [] }
      let record : Option MarkerRecord := some { line := d.line, tag := d.tag, time := time }
      let acu : Acu := { s.acu with tally := d.tally, red := d.tally == .onAir, green := d.tally == .preview }
      (s.rtu.timing = .locked → d.line < total →
        (d.line ≠ (p.line + 1) % total →
          exec (.superframeArrival bytes time order) s = .next (relocked record acu s.lma)) ∧
        (p.line < total → d.line = (p.line + 1) % total → d.tag ≠ (if d.line = 0 then p.tag + 1 else p.tag) →
          exec (.superframeArrival bytes time order) s = .next (relocked record acu
            (if p.time + 1000 ≤ time ∧ time ≤ p.time + 65535 then s.lma else s.lma.addCount .badInterval 1)))) ∧
      (s.rtu.timing = .holdover → d.line < total →
        d.line ≠ (p.line + s.rtu.missRun + 1) % total ∨
          d.tag ≠ p.tag + Fin.ofNat 16 ((p.line + s.rtu.missRun + 1) / total) →
        exec (.superframeArrival bytes time order) s = .next (relocked record acu s.lma)) ∧
      (s.rtu.timing = .locked ∨ s.rtu.timing = .holdover → total ≤ d.line →
        exec (.superframeArrival bytes time order) s = .next (relocked none s.acu s.lma))

/-- The first valid marker in FREE moves the RTU to LOCKING with that marker as its record (R28). -/
def Obligations.FirstMarkerStartsLocking : Prop :=
  ∀ (s : State) (bytes : List Byte) (time : Nat) (order : List Part) (d : Downstream),
    parseSuperframe bytes = some d → d.echo = none → d.cells = [] → d.aux = [] →
    s.tle.link = .online → s.rtu.timing = .free → s.rtu.probe = none → d.line < s.rtu.settings.total →
      exec (.superframeArrival bytes time order) s = .next { s with
        tle := { s.tle with badRun := 0 }
        rtu := { s.rtu with timing := .locking, lp := none, lockCount := 0, lockRef := none, advance := none,
                            wait := none, prev := some { line := d.line, tag := d.tag, time := time } }
        acu := { s.acu with tally := d.tally, red := d.tally == .onAir, green := d.tally == .preview }
        lma := (s.lma.raise .timingState).placeNotice s.lma.flags
        out := [] }

/-- A marker in LOCKING (R22, R27, R29, R30), by its interval: none formed, out of range, the first, within or outside 4 du of
the reference interval, and an invalid marker. A run that stays qualified with Dapp absent waits; the marker that makes or
keeps the run eight long with Dapp present brings LOCKED with the least advance j whose j line periods cover the need, or
DELAY_RANGE when 15 do not. No probe is outstanding. -/
def Obligations.LockAttempt : Prop :=
  ∀ (s : State) (bytes : List Byte) (time : Nat) (order : List Part) (d : Downstream),
    parseSuperframe bytes = some d → d.echo = none → d.cells = [] → d.aux = [] →
    s.tle.link = .online → s.rtu.timing = .locking → s.rtu.probe = none →
      let total := s.rtu.settings.total
      let acu : Acu := { s.acu with tally := d.tally, red := d.tally == .onAir, green := d.tally == .preview }
      let taken : Rtu := { s.rtu with prev := some { line := d.line, tag := d.tag, time := time } }
      let waits := fun (r : Rtu) (l : Lma) =>
        { s with tle := { s.tle with badRun := 0 }, rtu := r, acu := acu, lma := l, out := [] }
      (total ≤ d.line →
        exec (.superframeArrival bytes time order) s = .next { s with
          tle := { s.tle with badRun := 0 }, rtu := { s.rtu with lockCount := 0, prev := none }, out := [] }) ∧
      (d.line < total → (∀ p, s.rtu.prev = some p → d.line ≠ (p.line + 1) % total) →
        exec (.superframeArrival bytes time order) s = .next (waits { taken with lockCount := 0 } s.lma)) ∧
      (∀ p : MarkerRecord, s.rtu.prev = some p → d.line < total → d.line = (p.line + 1) % total →
        (time < p.time + 1000 ∨ p.time + 65535 < time →
          exec (.superframeArrival bytes time order) s = .next
            (waits { taken with lockCount := 0 } (s.lma.addCount .badInterval 1))) ∧
        (∀ i : Nat, time = p.time + i → 1000 ≤ i → i ≤ 65535 →
          let lp' := match s.rtu.lp with
            | none => i
            | some lp => (3 * lp + i + 2) / 4
          (s.rtu.lockCount = 0 →
            exec (.superframeArrival bytes time order) s = .next
              (waits { taken with lp := some lp', lockCount := 1, lockRef := some i } s.lma)) ∧
          (∀ ref : Nat, s.rtu.lockRef = some ref → 1 ≤ s.rtu.lockCount → s.rtu.lockCount ≤ 8 →
            (ref + 4 < i ∨ i + 4 < ref →
              exec (.superframeArrival bytes time order) s = .next
                (waits { taken with lp := some lp', lockCount := 1, lockRef := some i } s.lma)) ∧
            (i ≤ ref + 4 → ref ≤ i + 4 →
              (s.rtu.lockCount < 7 →
                exec (.superframeArrival bytes time order) s = .next
                  (waits { taken with lp := some lp', lockCount := s.rtu.lockCount + 1 } s.lma)) ∧
              (7 ≤ s.rtu.lockCount → s.rtu.dapp = none →
                exec (.superframeArrival bytes time order) s = .next
                  (waits { taken with lp := some lp', lockCount := 8 } s.lma)) ∧
              (∀ da : Nat, 7 ≤ s.rtu.lockCount → s.rtu.dapp = some da →
                (∀ j w : Nat, j ≤ 15 → w + (2 * da + s.rtu.settings.offset) = j * lp' → w < lp' →
                  exec (.superframeArrival bytes time order) s = .next
                    (waits
                      { taken with
                        timing := .locked, lp := some lp', lockCount := 8, advance := some j, wait := some w
                        missRun := 0, lastTick := none, deadline := some (time + lp' + 64) }
                      ((s.lma.raise .timingState).placeNotice s.lma.flags))) ∧
                (15 * lp' < 2 * da + s.rtu.settings.offset →
                  exec (.superframeArrival bytes time order) s = .next
                    (waits { taken with lp := some lp', lockCount := 8 }
                      ((s.lma.raise .delayRange).placeNotice s.lma.flags))))))))

/-- An echo (R24, R26, R33). With a marker that FREE ignores: a matching one ends the probe and gives the delay D and Dapp,
or counts BAD_PROBE when the measurement is negative; any other is ignored. Handed over first while a tick phase is held
in LOCKED or HOLDOVER, it leaves the rest of its superframe to a state in which Dapp has followed it: an unchanged Dapp
keeps the wait, a changed one recomputes the wait with the held advance, and a recomputed wait out of range relocks with
the previous-marker record kept, here with no commit DRAINING. -/
def Obligations.EchoMeasuresTheDelay : Prop :=
  (∀ (s : State) (bytes : List Byte) (time : Nat) (order : List Part) (d : Downstream) (e : Echo),
    parseSuperframe bytes = some d → d.echo = some e → d.cells = [] → d.aux = [] →
    s.tle.link = .online → s.rtu.timing = .free → s.rtu.settings.total ≤ d.line →
      (∀ (p : Probe) (m : Nat), s.rtu.probe = some p → p.id = e.id → time = p.sent + e.hold + 96 + m →
        exec (.superframeArrival bytes time order) s = .next { s with
          tle := { s.tle with badRun := 0 }
          rtu := { s.rtu with
            probe := none, abandonRun := 0, lastDelay := some (m / 2)
            dapp := some (match s.rtu.dapp with
              | none => m / 2
              | some a => (3 * a + m / 2 + 2) / 4) }
          out := [] }) ∧
      (∀ p : Probe, s.rtu.probe = some p → p.id = e.id → time < p.sent + e.hold + 96 →
        exec (.superframeArrival bytes time order) s = .next { s with
          tle := { s.tle with badRun := 0 }
          rtu := { s.rtu with probe := none, abandonRun := 0 }
          lma := s.lma.addCount .badProbe 1
          out := [] }) ∧
      ((∀ p : Probe, s.rtu.probe = some p → p.id ≠ e.id) →
        exec (.superframeArrival bytes time order) s = .next { s with
          tle := { s.tle with badRun := 0 }, out := [] })) ∧
  (∀ (s : State) (bytes rest : List Byte) (time : Nat) (order : List Part) (d : Downstream) (e : Echo) (p : Probe)
    (m lp j da : Nat),
    parseSuperframe bytes = some d → d.echo = some e → parseSuperframe rest = some { d with echo := none } →
    s.tle.link = .online → s.rtu.timing = .locked ∨ s.rtu.timing = .holdover →
    s.rtu.probe = some p → p.id = e.id → time = p.sent + e.hold + 96 + m →
    s.rtu.lp = some lp → s.rtu.advance = some j →
    da = (match s.rtu.dapp with
      | none => m / 2
      | some a => (3 * a + m / 2 + 2) / 4) →
      let leaves := fun (t : State) =>
        exec (.superframeArrival bytes time (.echo :: order)) s = exec (.superframeArrival rest time order) t
      let measured : Rtu :=
        { s.rtu with probe := none, abandonRun := 0, lastDelay := some (m / 2), dapp := some da }
      let need := 2 * da + s.rtu.settings.offset
      (s.rtu.dapp = some da → leaves { s with rtu := measured }) ∧
      (∀ w : Nat, s.rtu.dapp ≠ some da → w + need = j * lp → w < lp →
        leaves { s with rtu := { measured with wait := some w } }) ∧
      (s.rtu.dapp ≠ some da → j * lp < need ∨ need + lp ≤ j * lp → s.las.commit ≠ .draining →
        leaves { s with
          tle := flushedTle s.tle
          rtu := relockedRtu measured
          las := flushedLas s.las
          ldu := flushedLdu s.ldu
          lma := ((flushReport s s.lma).raise .timingState).placeNotice s.lma.flags }))

/-! ## Ticks, the deadline and probes (02) -/

/-- HEAD_LINE_TICK while the link is not ONLINE (R25, R32, R39, R57, R70, R72, R76, R77, R113): the head tick counter
takes the label, an outstanding probe ages, a trigger tick sends Frame Start, the due active line is dropped with its
record and counts one DROPPED_LINE, the frame end decides the seams, the UP lanes count the tick; a blanking line does
nothing of its own. No flip falls on the tick of a line that is due. -/
def Obligations.TickOfflineDropsItsLine : Prop :=
  ∀ (s : State) (t : Tick) (rest : List Tick),
    TimingInv s.rtu → s.tle.link ≠ .online → s.tle.superframe = none → s.tle.buffer = [] →
    s.rtu.ticks = t :: rest →
      let k := s.rtu.settings
      let due := t.label.num - k.latency
      let lost := s.lma.probeReport s.rtu
      (k.latency ≤ t.label.num → due < k.active → noFlipAt t.label s →
        exec .headLineTick s = .next { s with
          rtu := s.rtu.aged.ticked t.label rest
          las := { s.las.ticked s.rtu t.label with
            records := s.las.records.filter fun r => !(r.frame == t.label.frame && r.line == due) }
          ldu := { s.ldu with seams := decidedAt k t.label s.slr.seam s.ldu.seams }
          slr := s.slr.ticked k.total
          lma := (((lost.addCount .droppedLine 1).seamReport k t.label s.slr.seam s.ldu.seams).staleReport k.total
            s.slr).placeNotice s.lma.flags
          out := s.slr.frameStarts (triggerOf k t.label) }) ∧
      (t.label.num < k.latency ∨ k.latency + k.active ≤ t.label.num →
        exec .headLineTick s = .next { s with
          rtu := s.rtu.aged.ticked t.label rest
          las := s.las.ticked s.rtu t.label
          slr := s.slr.ticked k.total
          lma := (lost.staleReport k.total s.slr).placeNotice s.lma.flags
          out := s.slr.frameStarts (triggerOf k t.label) })

/-- With no tick scheduled HEAD_LINE_TICK changes nothing, which is the model's choice (log 1). A tick in ONLINE with the
RTU LOCKED or HOLDOVER ends the superframe before it, counting one TRUNCATED_LINE for cells left, and begins the next
with the STATUS cell of the moment (R12, R13, R17), behind the Frame Starts of a trigger tick (R39). Tick number 0 issues
a probe when none is outstanding, and the STATUS cell carries its id (R23); an outstanding probe ages by 1 and is
abandoned at 64 (R25). The UP lanes count the tick (R57). Three points are the model's choice: the tick that issues a
probe leaves it at age 0 (log 28); the alert summary in the cell is that of the flags before PROBE_LOST is raised at the
same tick (log 12); and whether a probe abandoned at tick number 0 lets a new one go at that tick is open, so that both
are stated (log 13). The due line is a blanking line. -/
def Obligations.TickOnlineSendsTheStatusCell : Prop :=
  (∀ s : State, s.rtu.ticks = [] → exec .headLineTick s = .next { s with out := [] }) ∧
  (∀ (s : State) (t : Tick) (rest : List Tick),
    TimingInv s.rtu → s.tle.link = .online → s.rtu.timing.ticking = true → s.rtu.ticks = t :: rest →
    t.label.num < s.rtu.settings.latency ∨ s.rtu.settings.latency + s.rtu.settings.active ≤ t.label.num →
      let k := s.rtu.settings
      let begun := fun (probe : Option Byte) (rtu : Rtu) => { s with
        rtu := rtu.ticked t.label rest
        tle := { s.tle with
          buffer := [], superframe := some { bank := s.tle.active, slot := 0, cell := s.statusNow probe } }
        las := s.las.ticked s.rtu t.label
        slr := s.slr.ticked k.total
        lma := (((if s.tle.buffer = [] then s.lma else s.lma.addCount .truncatedLine 1).probeReport s.rtu).staleReport
          k.total s.slr).placeNotice s.lma.flags
        out := s.slr.frameStarts (triggerOf k t.label) ++ [.slot 0 (s.statusNow probe)] }
      let new := some (s.rtu.lastProbeId + 1)
      (s.rtu.probe = none → t.label.num ≠ 0 → exec .headLineTick s = .next (begun none s.rtu)) ∧
      (s.rtu.probe = none → t.label.num = 0 →
        exec .headLineTick s = .next (begun new (s.rtu.issued t.time))) ∧
      (∀ p : Probe, s.rtu.probe = some p → p.age < 63 →
        exec .headLineTick s = .next (begun none { s.rtu with probe := some { p with age := p.age + 1 } })) ∧
      (∀ p : Probe, s.rtu.probe = some p → p.age = 63 →
        let gone : Rtu := { s.rtu with probe := none, abandonRun := min 255 (s.rtu.abandonRun + 1) }
        (t.label.num ≠ 0 → exec .headLineTick s = .next (begun none gone)) ∧
        (t.label.num = 0 →
          exec .headLineTick s = .next
            (if Config.reissueAtAbandonTick = true then begun new (gone.issued t.time) else begun none gone))))

/-- A trigger tick (R39, R67, R76, R77), in ONLINE or not, whatever line is due: with Lead above 0 it is the tick Lead before
the next frame, with Lead 0 the tick number 0 of its own. Frame Start for that frame goes to every lane that is UP, before
all else the tick sends; the triggered frame is that frame; the triggered-frame bank is the active bank, or the target of
a commit under way; a PENDING commit becomes DRAINING with that frame as the switch frame. A tick that is none sends no
Frame Start. -/
def Obligations.TriggerTickStartsTheFrame : Prop :=
  ∀ (s : State) (t : Tick) (rest : List Tick), TimingInv s.rtu → s.rtu.ticks = t :: rest →
    let k := s.rtu.settings
    let starts := fun (g : Fin 16) =>
      (([0, 1, 2, 3] : List (Fin 4)).filter fun i => s.slr.lanes[i].state == .up).map fun i =>
        Output.downlink i (.frameStart g)
    let sent := fun (u : State) => u.out.filter fun x => match x with
      | .downlink _ (.frameStart _) => true
      | _ => false
    (∀ g : Fin 16,
      k.lead ≠ 0 ∧ t.label.num + k.lead = k.total ∧ g = t.label.frame + 1 ∨
        k.lead = 0 ∧ t.label.num = 0 ∧ g = t.label.frame →
      ∃ u, exec .headLineTick s = .next u ∧
        u.rtu.triggered = some g ∧ u.rtu.head = some t.label ∧ sent u = starts g ∧ starts g <+: u.out ∧
        (s.las.commit = .none → u.las.triggeredBank = s.las.active ∧ u.las.commit = .none) ∧
        (∀ bank : Bank, s.las.commit = .pending → s.las.target = some bank → s.las.flipMark = false →
          u.las.triggeredBank = bank ∧ u.las.commit = .draining ∧ u.las.target = some bank ∧
          u.las.switchFrame = some g ∧ u.las.active = s.las.active) ∧
        (∀ bank : Bank, s.las.commit = .draining → s.las.target = some bank → u.las.triggeredBank = bank)) ∧
    (t.label.num + k.lead ≠ k.total → t.label.num ≠ 0 ∨ k.lead ≠ 0 →
      ∃ u, exec .headLineTick s = .next u ∧ u.rtu.triggered = s.rtu.triggered ∧ u.rtu.head = some t.label ∧
        sent u = [] ∧ u.las.triggeredBank = s.las.triggeredBank)

/-- MARKER_DEADLINE_EXPIRY (R34 to R36): LOCKED with a tick scheduled goes to HOLDOVER; HOLDOVER goes on below 64 misses; each
schedules a tick one line period after the last, one line on. A tick whose time is past is emitted at once (R34): the next
state is that of HEAD_LINE_TICK at the deadline, in the state in which the miss is taken. A tick that waits for the new
tick's time or later is emitted first (R32), and the new one is scheduled after it; before a tick whose time is past every
waiting one is emitted. In FREE and LOCKING nothing expires, which is the model's choice for an event that cannot come there
(log 1). -/
def Obligations.DeadlineExpiryHoldsOver : Prop :=
  ∀ s : State,
    (∀ (dl lp : Nat) (last : Tick),
      s.rtu.deadline = some dl → s.rtu.lp = some lp → s.rtu.lastTick = some last →
        let t : Tick :=
          { label := if last.label.num + 1 = s.rtu.settings.total then { frame := last.label.frame + 1, num := 0 }
                     else { frame := last.label.frame, num := last.label.num + 1 }
            time := last.time + lp }
        let missed := fun (rtu : Rtu) (l : Lma) =>
          ((∀ x ∈ s.rtu.ticks, x.time < t.time) → dl ≤ t.time →
            exec .markerDeadlineExpiry s = .next { s with
              rtu := { rtu with ticks := s.rtu.ticks ++ [t], lastTick := some t }
              lma := l.placeNotice s.lma.flags
              out := [] }) ∧
          (s.rtu.ticks = [] → t.time < dl →
            ∃ v, exec .headLineTick { s with
                rtu := { rtu with ticks := [{ t with time := dl }], lastTick := some t }, lma := l } = .next v ∧
              exec .markerDeadlineExpiry s = .next { v with lma := v.lma.placeNotice s.lma.flags }) ∧
          (∀ x : Tick, s.rtu.ticks = [x] → t.time ≤ x.time → dl ≤ t.time →
            ∃ v, exec .headLineTick { s with
                rtu := { rtu with ticks := [{ x with time := dl }] }, lma := l } = .next v ∧
              exec .markerDeadlineExpiry s = .next { v with
                rtu := { v.rtu with ticks := [t], lastTick := some t }, lma := v.lma.placeNotice s.lma.flags }) ∧
          (t.time < dl →
            ∃ u, exec .markerDeadlineExpiry s = .next u ∧
              u.rtu.ticks = [] ∧ u.rtu.lastTick = some t ∧ u.rtu.head = some t.label ∧ u.rtu.timing = .holdover)
        (s.rtu.timing = .locked →
          missed { s.rtu with timing := .holdover, missRun := 1, deadline := some (dl + lp) }
            ((s.lma.raise .timingState).addCount .markerMiss 1)) ∧
        (s.rtu.timing = .holdover → s.rtu.missRun < 63 →
          missed { s.rtu with missRun := s.rtu.missRun + 1, deadline := some (dl + lp) }
            (s.lma.addCount .markerMiss 1))) ∧
    (s.rtu.timing = .free ∨ s.rtu.timing = .locking → exec .markerDeadlineExpiry s = .next { s with out := [] })

/-- MARKER_DEADLINE_EXPIRY that ends the tick phase (R34, R36, R38): LOCKED before the first tick relocks; that
this miss is not counted is the model's reading (log 25). The sixty-fourth miss in HOLDOVER is counted and enters FREE. Both
flush, here with no commit DRAINING. -/
def Obligations.DeadlineExpiryEndsTheTickPhase : Prop :=
  ∀ (s : State) (dl : Nat), s.rtu.deadline = some dl → s.las.commit ≠ .draining →
    (s.rtu.timing = .locked → s.rtu.lastTick = none →
      exec .markerDeadlineExpiry s = .next { s with
        rtu := relockedRtu s.rtu
        tle := flushedTle s.tle
        las := flushedLas s.las
        ldu := flushedLdu s.ldu
        lma := ((flushReport s s.lma).raise .timingState).placeNotice s.lma.flags
        out := [] }) ∧
    (s.rtu.timing = .holdover → s.rtu.missRun = 63 →
      exec .markerDeadlineExpiry s = .next { s with
        rtu := { relockedRtu s.rtu with timing := .free, missRun := 64, prev := none }
        tle := flushedTle s.tle
        las := flushedLas s.las
        ldu := flushedLdu s.ldu
        acu := { s.acu with tally := .off, red := false, green := false }
        lma := (((flushReport s (s.lma.addCount .markerMiss 1)).raise .timingState).raise .referenceLost).placeNotice
          s.lma.flags
        out := [] })

/-- The age of a probe (R25): it rises at a head line tick and at a valid marker in FREE or LOCKING, and the event that
brings it to 64 abandons the probe, with PROBE_MISS counted and PROBE_LOST raised when the run reaches 8. The tick is one
out of ONLINE whose line is a blanking line; the marker in LOCKING is one with no record before it. PROBE_ABANDON as a
command of its own abandons a probe of age 64 and finds nothing to do otherwise, which is the model's choice (log 16). -/
def Obligations.ProbeAbandonedAtSixtyFour : Prop :=
  ∀ s : State,
    (∀ p : Probe, s.rtu.probe = some p → 64 ≤ p.age →
      exec .probeAbandon s = .next { s with
        rtu := { s.rtu with probe := none, abandonRun := min 255 (s.rtu.abandonRun + 1) }
        lma := (if s.rtu.abandonRun + 1 = 8 then (s.lma.addCount .probeMiss 1).raise .probeLost
                else s.lma.addCount .probeMiss 1).placeNotice s.lma.flags
        out := [] }) ∧
    ((∀ p : Probe, s.rtu.probe = some p → p.age < 64) → exec .probeAbandon s = .next { s with out := [] }) ∧
    (∀ p : Probe, s.rtu.probe = some p → p.age < 64 →
      let aged : Rtu :=
        if p.age = 63 then { s.rtu with probe := none, abandonRun := min 255 (s.rtu.abandonRun + 1) }
        else { s.rtu with probe := some { p with age := p.age + 1 } }
      let report : Lma :=
        if p.age = 63 then
          (if s.rtu.abandonRun + 1 = 8 then (s.lma.addCount .probeMiss 1).raise .probeLost
           else s.lma.addCount .probeMiss 1)
        else s.lma
      (∀ (t : Tick) (rest : List Tick) (h : Label),
        s.tle.link ≠ .online → s.tle.superframe = none → s.tle.buffer = [] →
        s.rtu.ticks = t :: rest → s.rtu.head = some h → h.frame = t.label.frame →
        triggerOf s.rtu.settings t.label = none → s.las.commit = .none →
        s.rtu.settings.latency ≤ t.label.num → s.rtu.settings.active ≤ t.label.num - s.rtu.settings.latency →
        (∀ i : Fin 4, s.slr.lanes[i].state ≠ .up) →
          exec .headLineTick s = .next { s with
            rtu := { aged with head := some t.label, ticks := rest }
            lma := report.placeNotice s.lma.flags
            out := [] }) ∧
      (∀ (bytes : List Byte) (time : Nat) (order : List Part) (d : Downstream),
        parseSuperframe bytes = some d → d.echo = none → d.cells = [] → d.aux = [] → s.tle.link = .online →
        d.line < s.rtu.settings.total →
          let record : MarkerRecord := { line := d.line, tag := d.tag, time := time }
          let acu : Acu := { s.acu with tally := d.tally, red := d.tally == .onAir, green := d.tally == .preview }
          (s.rtu.timing = .free →
            exec (.superframeArrival bytes time order) s = .next { s with
              tle := { s.tle with badRun := 0 }
              rtu := { aged with timing := .locking, lp := none, lockCount := 0, lockRef := none, advance := none
                                 wait := none, prev := some record }
              acu := acu
              lma := (report.raise .timingState).placeNotice s.lma.flags
              out := [] }) ∧
          (s.rtu.timing = .locking → s.rtu.prev = none →
            exec (.superframeArrival bytes time order) s = .next { s with
              tle := { s.tle with badRun := 0 }
              rtu := { aged with lockCount := 0, prev := some record }
              acu := acu
              lma := report.placeNotice s.lma.flags
              out := [] })))

/-- TIMING_SETTINGS_WRITE (R20, R21, R165, R180) that is not lost at arrival for its Length: a range that leaves the table, a wrong Length, a written field that is no
number of its range, and a table that would break R21's conditions with the fields not written at their current values, are
refused in that order. Else every field written is stored and the answer is OK; FREE only stores them, any other timing
state relocks too, here with no commit DRAINING. -/
def Obligations.TimingSettingsAreWrittenWhole : Prop :=
  ∀ (s : State) (f : WriteFields), AtRest s → f.length.toNat ≤ 240 →
    let answer := fun st : Status => s.lma.place (.writeAnswer f.tag st 2 f.index f.count)
    let inside := fun i : Nat => f.index.toNat ≤ i ∧ i < f.index.toNat + f.count.toNat
    let x := fun i : Nat => (bodyField f.body (i - f.index.toNat)).toNat
    let get := fun (i old : Nat) => if inside i then x i % 2 ^ 56 else old
    let old := s.rtu.settings
    let v : TimingSettings :=
      { total := get 0 old.total, active := get 1 old.active, latency := get 2 old.latency, lead := get 3 old.lead
        offset := get 4 old.offset }
    let lowest : List Nat := [2, 1, 1, 0, 0]
    let highest : List Nat := [4500, 4320, 15, 15, 65535]
    let good : Prop :=
      (∀ i < 5, inside i →
        x i / 2 ^ 56 = 1 ∧ lowest.getD i 0 ≤ x i % 2 ^ 56 ∧ x i % 2 ^ 56 ≤ highest.getD i 0) ∧
      v.active < v.total ∧ v.latency + v.active + 1 ≤ v.total ∧ v.lead < v.total
    (f.count = 0 ∨ 30 < f.count.toNat ∨ 5 < f.index.toNat + f.count.toNat →
      exec (.timingSettingsWrite f) s = .next { s with lma := answer .badIndex, out := [] }) ∧
    (f.count ≠ 0 → f.index.toNat + f.count.toNat ≤ 5 →
      (f.length.toNat ≠ 8 * f.count.toNat ∨ ¬ good →
        exec (.timingSettingsWrite f) s = .next { s with lma := answer .badValue, out := [] }) ∧
      (f.length.toNat = 8 * f.count.toNat → good →
        (s.rtu.timing = .free →
          exec (.timingSettingsWrite f) s = .next { s with
            rtu := { s.rtu with settings := v }, lma := answer .ok, out := [] }) ∧
        (s.rtu.timing ≠ .free → s.las.commit ≠ .draining →
          exec (.timingSettingsWrite f) s = .next { s with
            rtu := { relockedRtu s.rtu with settings := v }
            tle := flushedTle s.tle
            las := flushedLas s.las
            ldu := flushedLdu s.ldu
            lma := ((flushReport s (answer .ok)).raise .timingState).placeNotice s.lma.flags
            out := [] })))

/-- RELOCK (R37, R38): in FREE the answer alone; in every other timing state the RTU flushes, clears its tick phase and
is LOCKING, and TIMING_STATE is raised. No commit is DRAINING here. -/
def Obligations.RelockCommand : Prop :=
  ∀ (s : State) (f : CommandFields), AtRest s → f.length = 0 →
    (s.rtu.timing = .free →
      exec (.relock f) s = .next { s with lma := s.lma.place (.commandAnswer f.tag .ok 11), out := [] }) ∧
    (s.rtu.timing ≠ .free → s.las.commit ≠ .draining →
      exec (.relock f) s = .next { s with
        rtu := relockedRtu s.rtu
        tle := flushedTle s.tle
        las := flushedLas s.las
        ldu := flushedLdu s.ldu
        lma := ((flushReport s (s.lma.place (.commandAnswer f.tag .ok 11))).raise .timingState).placeNotice s.lma.flags
        out := [] })

/-- How a DRAINING commit flips and completes, and what a tick makes of the frame bank pair (R16, R38, R76, R78, R79, R81,
R87, R109). By a flush whose commit is still to flip: the target becomes the active bank, both old banks become copies of
the target's, the Held Copy is invalid, the seam records are formed afresh and the run's cause is FLUSH. By the tick
labelled (switch frame, Latency): the flip, before line 0 is departed under the new ladder from the record's bank, or
dropped; and the completion when no record but line 0's carries the old stamp. By a tick that frees the last record with
the old stamp after the flip. The current-frame bank changes at a tick of another frame than the counter's. -/
def Obligations.FlushCompletesADrainingCommit : Prop :=
  (∀ (s : State) (f : CommandFields) (bank : Bank), AtRest s → CommitInv s → f.length = 0 → s.rtu.timing ≠ .free →
    s.las.commit = .draining → s.las.flipMark = false → s.las.target = some bank →
      ∃ t, exec (.relock f) s = .next t ∧
        t.las.commit = .none ∧ t.las.target = none ∧ t.las.switchFrame = none ∧ t.las.flipMark = false ∧
        t.las.active = bank ∧ t.las.currentBank = bank ∧ t.las.triggeredBank = bank ∧ t.las.records = [] ∧
        t.las.mapA = s.las.map bank ∧ t.las.mapB = s.las.map bank ∧
        t.tle.active = bank ∧ t.tle.schedA = s.tle.sched bank ∧ t.tle.schedB = s.tle.sched bank ∧
        t.tle.degrade = ladder (s.tle.sched bank) (totalWidth (s.las.map bank).entries) s.tle.profile.budget ∧
        (∀ k : Fin 16, t.ldu.held[k].valid = false) ∧
        t.ldu.seams = seamsFrom 1 (s.las.map bank).entries ∧
        t.ldu.correction = s.ldu.correction ∧
        (s.ldu.run.state = .running → t.ldu.run.state = .aborted ∧ t.ldu.run.cause = .flush) ∧
        t.lma.flag .commitDone = true ∧ t.rtu.timing = .locking) ∧
  (∀ (s : State) (t : Tick) (rest : List Tick) (bank : Bank),
    CommitInv s → TimingInv s.rtu → s.rtu.ticks = t :: rest → s.las.commit = .draining → s.las.target = some bank →
      let due := t.label.num - s.rtu.settings.latency
      let freed := s.las.records.filter fun r => !(r.frame == t.label.frame && r.line == due)
      let completed := fun u : State =>
        u.las.commit = .none ∧ u.las.target = none ∧ u.las.switchFrame = none ∧ u.las.flipMark = false ∧
        u.las.mapA = s.las.map bank ∧ u.las.mapB = s.las.map bank ∧
        u.tle.schedA = s.tle.sched bank ∧ u.tle.schedB = s.tle.sched bank ∧ u.lma.flag .commitDone = true
      let stillDraining := fun u : State =>
        u.las.commit = .draining ∧ u.las.target = some bank ∧ u.las.flipMark = true ∧
        u.las.mapA = s.las.mapA ∧ u.las.mapB = s.las.mapB ∧
        u.tle.schedA = s.tle.schedA ∧ u.tle.schedB = s.tle.schedB ∧
        u.lma.flag .commitDone = s.lma.flag .commitDone
      let result := fun u : State =>
        u.las.records = freed ∧ u.las.active = bank ∧ u.tle.active = bank ∧
        ((∀ r ∈ freed, r.stamp = bank) → completed u) ∧ ((∃ r ∈ freed, r.stamp = bank.other) → stillDraining u)
      let new := ladder (s.tle.sched bank) (totalWidth (s.las.map bank).entries) s.tle.profile.budget
      (s.las.flipMark = false → s.las.switchFrame = some t.label.frame → t.label.num = s.rtu.settings.latency →
        ∃ u, exec .headLineTick s = .next u ∧ result u ∧ u.tle.degrade = new ∧
          u.ldu.correction = s.ldu.correction ∧
          (s.ldu.run.state = .running → u.ldu.run.state = .aborted ∧ u.ldu.run.cause = .mapChanged) ∧
          (s.tle.link ≠ .online →
            (∀ k : Fin 16, u.ldu.held[k].valid = false) ∧ u.ldu.seams = seamsFrom 1 (s.las.map bank).entries) ∧
          (s.tle.link = .online → s.rtu.timing.ticking = true →
            u.tle.superframe.map Superframe.bank = some bank ∧
            ∀ r : LineRecord, s.las.recordOf t.label.frame 0 = some r → (s.las.map r.stamp).entries ≠ [] →
              u.tle.buffer = lineCellList new t.label.frame 0
                (departingEntries
                  { s.ldu with held := Vector.ofFn fun k => { s.ldu.held[k] with valid := false } }
                  (s.las.map r.stamp).entries r.present))) ∧
      (s.las.flipMark = true → s.rtu.settings.latency ≤ t.label.num → due < s.rtu.settings.active →
        ∃ u, exec .headLineTick s = .next u ∧ result u)) ∧
  (∀ (s : State) (t : Tick) (rest : List Tick), s.rtu.ticks = t :: rest →
    ∃ u, exec .headLineTick s = .next u ∧ u.rtu.head = some t.label ∧
      (s.rtu.head.map Label.frame = some t.label.frame → u.las.currentBank = s.las.currentBank) ∧
      (s.rtu.head.map Label.frame ≠ some t.label.frame → triggerOf s.rtu.settings t.label = none →
        u.las.currentBank = (if s.rtu.triggered = some t.label.frame then s.las.triggeredBank else s.las.active) ∧
        u.las.triggeredBank = s.las.triggeredBank) ∧
      (s.rtu.head.map Label.frame ≠ some t.label.frame → s.rtu.settings.lead = 0 → t.label.num = 0 →
        u.rtu.triggered = some t.label.frame ∧
        (s.las.commit = .none → u.las.currentBank = s.las.active ∧ u.las.triggeredBank = s.las.active) ∧
        ∀ bank : Bank, s.las.commit ≠ .none → s.las.target = some bank →
          u.las.currentBank = bank ∧ u.las.triggeredBank = bank))

/-! ## Upstream slots (01, 10) -/

/-- The type a slot is sent as (R14): its entry's, but for the management reserve at Budget - 1 when no entry below the
Budget is MGMT; and V counts the slots sent as VIDEO that are no reserve (R18). -/
def Obligations.ManagementReserve : Prop :=
  ∀ (b : SlotBank) (budget k : Nat), 1 ≤ k → k < budget → budget ≤ 64 →
    (k = budget - 1 → (∀ i, 1 ≤ i → i < budget → b.entry i ≠ .mgmt) → b.sentType budget k = .mgmt) ∧
    (k ≠ budget - 1 → b.sentType budget k = b.entry k) ∧
    ((∃ i, 1 ≤ i ∧ i < budget ∧ b.entry i = .mgmt) → b.sentType budget k = b.entry k)

/-- The degrade ladder (R18): with a depth not above the programmed one whose cells fit V, the result is the highest such
depth and does not truncate; with none it is depth 10 and truncates. The indication says which. -/
def Obligations.LadderTakesTheHighestFittingDepth : Prop :=
  ∀ (b : SlotBank) (width budget : Nat),
    let v := ((List.range budget).filter fun k => 1 ≤ k ∧ b.sentType budget k = .video).length
    let fits := fun d : Depth => d.bits ≤ b.depth.bits ∧ width ≤ v * d.perCell
    (ladder b width budget).v = v ∧
    ((∃ d, fits d) →
      fits (ladder b width budget).depth ∧ (∀ d, fits d → d.bits ≤ (ladder b width budget).depth.bits) ∧
      (ladder b width budget).truncating = false ∧
      (ladder b width budget).indication =
        (if (ladder b width budget).depth.bits < b.depth.bits then .reduced else .none)) ∧
    ((∀ d, ¬ fits d) →
      (ladder b width budget).depth = .d10 ∧ (ladder b width budget).truncating = true ∧
      (ladder b width budget).indication = .truncating) ∧
    (width = 0 → (ladder b width budget).depth = b.depth ∧ (ladder b width budget).indication = .none)

/-- SLOT_SENT of a slot that is not a MGMT slot (R12, R14, R17): the next slot begins with the oldest cell of the
Departure Buffer, the bytes of the Upstream Aux FIFO, or a fill cell; after the last slot the superframe ends, with one
TRUNCATED_LINE for cells left. Without a superframe nothing is being sent, which is the model's choice (log 1). -/
def Obligations.SlotSentBeginsTheNextSlot : Prop :=
  ∀ s : State,
    (s.tle.superframe = none → exec .slotSent s = .next { s with out := [] }) ∧
    (∀ f : Superframe, s.tle.superframe = some f →
      (s.tle.profile.budget ≤ f.slot + 1 →
        exec .slotSent s = .next { s with
          tle := { s.tle with superframe := none, buffer := [] }
          lma := if s.tle.buffer = [] then s.lma else s.lma.addCount .truncatedLine 1
          out := [] }) ∧
      (f.slot + 1 < s.tle.profile.budget →
        ((s.tle.sched f.bank).sentType s.tle.profile.budget (f.slot + 1) = .fill →
          exec .slotSent s = .next { s with
            tle := { s.tle with superframe := some { bank := f.bank, slot := f.slot + 1, cell := .fill } }
            out := [.slot (f.slot + 1) .fill] }) ∧
        ((s.tle.sched f.bank).sentType s.tle.profile.budget (f.slot + 1) = .aux →
          exec .slotSent s = .next { s with
            tle := { s.tle with
              superframe := some { bank := f.bank, slot := f.slot + 1, cell := .aux (s.acu.up.take 418) } }
            acu := { s.acu with up := s.acu.up.drop 418 }
            out := [.slot (f.slot + 1) (.aux (s.acu.up.take 418))] }) ∧
        ((s.tle.sched f.bank).sentType s.tle.profile.budget (f.slot + 1) = .video →
          (s.tle.buffer = [] →
            exec .slotSent s = .next { s with
              tle := { s.tle with superframe := some { bank := f.bank, slot := f.slot + 1, cell := .fill } }
              out := [.slot (f.slot + 1) .fill] }) ∧
          (∀ c rest, s.tle.buffer = c :: rest →
            exec .slotSent s = .next { s with
              tle := { s.tle with
                buffer := rest, superframe := some { bank := f.bank, slot := f.slot + 1, cell := .video c } }
              out := [.slot (f.slot + 1) (.video c)] }))))

/-- A MGMT slot (R14, R161, R163, R174): it carries the oldest message of Egress, a notice with the flags of the moment,
and the freed place goes to the pending notice, else to the first lane in rotation that holds a result, else to the head
of Ingress, which is performed. -/
def Obligations.MgmtSlotGrantsTheFreedPlace : Prop :=
  ∀ (s : State) (f : Superframe), s.tle.superframe = some f → f.slot + 1 < s.tle.profile.budget →
    (s.tle.sched f.bank).sentType s.tle.profile.budget (f.slot + 1) = .mgmt →
    (s.lma.egress = [] →
      exec .slotSent s = .next { s with
        tle := { s.tle with superframe := some { bank := f.bank, slot := f.slot + 1, cell := .fill } }
        out := [.slot (f.slot + 1) .fill] }) ∧
    (∀ (m : UpMessage) (rest : List UpMessage), s.lma.egress = m :: rest →
      let c : UpCell := .mgmt (match m with | .alertNotice _ => .alertNotice s.lma.flags | m => m)
      let tle := { s.tle with superframe := some { bank := f.bank, slot := f.slot + 1, cell := c } }
      (s.lma.noticePending = true →
        exec .slotSent s = .next { s with
          tle := tle
          lma := { s.lma with egress := rest ++ [.alertNotice s.lma.flags], noticePending := false }
          out := [.slot (f.slot + 1) c] }) ∧
      (s.lma.noticePending = false → s.lma.ingress = [] → (∀ i : Fin 4, s.bcr[i].held = none) →
        exec .slotSent s = .next { s with
          tle := tle, lma := { s.lma with egress := rest }, out := [.slot (f.slot + 1) c] }) ∧
      (∀ (i : Fin 4) (r : RelayResult), s.lma.noticePending = false → s.bcr[i].held = some r → s.bcr[i].queue = [] →
        (∀ n : Fin 4, n.val < (i - (s.lma.rotation + 1)).val → s.bcr[s.lma.rotation + 1 + n].held = none) →
          exec .slotSent s = .next { s with
            tle := tle
            bcr := s.bcr.set i { s.bcr[i] with held := none }
            lma := { s.lma with egress := rest ++ [.relayResult r], rotation := i }
            out := [.slot (f.slot + 1) c] }) ∧
      (∀ (q : Message) (more : List Message), s.lma.noticePending = false → (∀ i : Fin 4, s.bcr[i].held = none) →
        s.lma.ingress = q :: more → rest.length = 7 →
          exec .slotSent s = .next (perform q { s with
            tle := tle, lma := { s.lma with egress := rest, ingress := more }, out := [.slot (f.slot + 1) c] })))

/-! ## Link commands (01) -/

/-- RETRAIN (R7, R9): UP in ONLINE trains at the cap and DOWN_ONLY at the current profile, and the answer waits in Egress;
UP in TRAINING begins a new attempt at the cap; every other pair has no effect; another argument is refused. -/
def Obligations.RetrainCommand : Prop :=
  ∀ (s : State) (f : CommandFields), AtRest s → f.length = 1 →
    (s.tle.link = .online → byteAt f.body 0 = 0 ∨ byteAt f.body 0 = 1 →
      exec (.retrain f) s = .next { s with
        tle := { s.tle with link := .training, goodRun := 0, attemptTimer := true, superframe := none, buffer := []
                            profile := if byteAt f.body 0 = 0 then s.tle.cap else s.tle.profile }
        lma := ((if s.tle.buffer = [] then s.lma.place (.commandAnswer f.tag .ok 10)
                 else (s.lma.place (.commandAnswer f.tag .ok 10)).addCount .droppedLine 1).raise .linkState).placeNotice
          s.lma.flags
        out := [] }) ∧
    (s.tle.link = .training → byteAt f.body 0 = 0 →
      exec (.retrain f) s = .next { s with
        tle := { s.tle with profile := s.tle.cap, goodRun := 0, attemptTimer := true }
        lma := s.lma.place (.commandAnswer f.tag .ok 10)
        out := [] }) ∧
    (s.tle.link = .down ∧ byteAt f.body 0 = 0 ∨ s.tle.link ≠ .online ∧ byteAt f.body 0 = 1 →
      exec (.retrain f) s = .next { s with lma := s.lma.place (.commandAnswer f.tag .ok 10), out := [] }) ∧
    (1 < (byteAt f.body 0).toNat →
      exec (.retrain f) s = .next { s with lma := s.lma.place (.commandAnswer f.tag .badValue 10), out := [] })

/-- PROFILE_CAP_WRITE (R2, R8, R165, R180): a cap below the profile sends ONLINE to TRAINING at the cap and begins a new
attempt in TRAINING; any other is stored alone; a value that names no profile is refused. Values given for the read-only
fields are ignored, and a WRITE of those alone stores nothing. -/
def Obligations.ProfileCapWrite : Prop :=
  ∀ (s : State) (f : WriteFields), AtRest s → f.count ≠ 0 → f.index.toNat + f.count.toNat ≤ 5 →
    f.length.toNat = 8 * f.count.toNat →
    let answer := fun st : Status => s.lma.place (.writeAnswer f.tag st 1 f.index f.count)
    let x := bodyField f.body 0
    (f.index ≠ 0 → exec (.profileCapWrite f) s = .next { s with lma := answer .ok, out := [] }) ∧
    (f.index = 0 →
      (∀ c : Profile, x = fieldOfNat c.number →
        (s.tle.profile.number ≤ c.number ∨ s.tle.link = .down →
          exec (.profileCapWrite f) s = .next { s with
            tle := { s.tle with cap := c }, lma := answer .ok, out := [] }) ∧
        (c.number < s.tle.profile.number → s.tle.link = .training →
          exec (.profileCapWrite f) s = .next { s with
            tle := { s.tle with cap := c, profile := c, goodRun := 0, attemptTimer := true }
            lma := answer .ok
            out := [] }) ∧
        (c.number < s.tle.profile.number → s.tle.link = .online →
          exec (.profileCapWrite f) s = .next { s with
            tle := { s.tle with cap := c, link := .training, profile := c, goodRun := 0, attemptTimer := true
                                superframe := none, buffer := [] }
            lma := ((if s.tle.buffer = [] then answer .ok else (answer .ok).addCount .droppedLine 1).raise
              .linkState).placeNotice s.lma.flags
            out := [] })) ∧
      (x.toNat / 2 ^ 56 ≠ 1 ∨ x.toNat % 2 ^ 56 = 0 ∨ 4 < x.toNat % 2 ^ 56 →
        exec (.profileCapWrite f) s = .next { s with lma := answer .badValue, out := [] }))

/-! ## The departure (05) -/

/-- R92: the corrected sample of a raw sample under Black, Gain and Pedestal; the samples of an entry from the record or
the Held Copy are corrected with the Correction Table entry its index names; every corrected sample is at most 16383. -/
def Obligations.CorrectionOfASample : Prop :=
  (∀ (l : Ldu) (es : List Place) (present : List Segment), ∀ d ∈ departingEntries l es present,
    (∀ xs : List Sample, d.source = .record xs ∨ d.source = .held xs →
      d.corrected = xs.map (correct l.correction[d.place.correction])) ∧
    ∀ r ∈ d.corrected, r ≤ 16383) ∧
  ∀ (c : Correction) (x : Sample),
    let d : Int := (x.toNat : Int) - c.black.toNat
    let p : Int := d * c.gain.toNat
    let q : Int := (p + 8192) / 16384
    (-4095 ≤ d ∧ d ≤ 16383) ∧
    (-268365825 ≤ p ∧ p ≤ 1073659905) ∧
    (16384 * q ≤ p + 8192 ∧ p + 8192 < 16384 * (q + 1) ∧ -16380 ≤ q ∧ q ≤ 65531) ∧
    (p + 8192 = -2803240 → q = -172) ∧
    (q + c.pedestal.toNat < 0 → correct c x = 0) ∧
    (0 ≤ q + c.pedestal.toNat → q + c.pedestal.toNat ≤ 16383 → (correct c x : Int) = q + c.pedestal.toNat) ∧
    (16383 < q + c.pedestal.toNat → correct c x = 16383) ∧
    (c.gain = 0 → correct c x = c.pedestal.toNat) ∧
    correct c x ≤ 16383

/-- R93: the output sample of a corrected sample at each depth, with its clamp, its range and its worked values; cell k of
a departing line holds the output samples of the line's corrected samples, requantized to the departure depth, from row
position k times the samples per cell on. -/
def Obligations.RequantizationOfASample : Prop :=
  (∀ e : Depth, requantize e 0 = 0) ∧ requantize .d12 4095 = 1024 ∧ requantize .d10 4095 = 256 ∧
  (∀ r : Nat, r ≤ 16383 →
    requantize .d14 r = r ∧
    (requantize .d12 r = min 4095 ((r + 2) / 4)) ∧
    (requantize .d10 r = min 1023 ((r + 8) / 16)) ∧
    (r = 16382 ∨ r = 16383 → (r + 2) / 4 = 4096 ∧ requantize .d12 r = 4095) ∧
    (16376 ≤ r → (r + 8) / 16 = 1024 ∧ requantize .d10 r = 1023) ∧
    (∀ e : Depth, requantize e r < 2 ^ e.bits)) ∧
  ∀ (g : Degrade) (frame : Fin 16) (line : Nat) (ds : List Departing) (k : Nat) (c : VideoCell),
    (lineCellList g frame line ds)[k]? = some c →
      c.payload = packPayload g.depth
        ((((ds.flatMap Departing.corrected).drop (k * g.depth.perCell)).take g.depth.perCell).map
          (requantize g.depth))

/-- The layouts of what the part sends (R14, R95, R96, R161, R177 to R180; 12, Tables 13-2 to 13-6). Sample j of a VIDEO cell
stands at payload bits j × e to j × e + e - 1, counted from the first bit, most significant bit first, and the bits after
the last sample are 0. The two checks are taken bit by bit, most significant bit first. Headers and payloads are given
byte by byte, downlink items word by word, and fields of tables by their presence byte and value. -/
def Obligations.PackingOfACell : Prop :=
  (∀ (e : Depth) (zs : List Nat), zs.length ≤ e.perCell → (∀ z ∈ zs, z < 2 ^ e.bits) →
    (∀ j k : Nat, (h : j < zs.length) → k < e.bits →
      (packPayload e zs).getMsbD (j * e.bits + k) = zs[j].testBit (e.bits - 1 - k)) ∧
    (∀ k : Nat, zs.length * e.bits ≤ k → k < 3360 → (packPayload e zs).getMsbD k = false)) ∧
  (let serial32 := fun (c : BitVec 32) (x : Bool) => if c.msb != x then (c <<< 1) ^^^ 0x04C11DB7#32 else c <<< 1
   let serial16 := fun (c : BitVec 16) (x : Bool) => if c.msb != x then (c <<< 1) ^^^ 0x1021#16 else c <<< 1
   (∀ bs : List Byte, crc32 bs =
      ~~~ (bs.flatMap fun b => (List.range 8).map fun k => b.getMsbD k).foldl serial32 0xFFFFFFFF#32) ∧
   (∀ ws : List LaneBits, crc16 ws =
      (ws.flatMap fun w => (List.range 16).map fun k => w.getMsbD k).foldl serial16 0xFFFF#16)) ∧
  (let two := fun n : Nat => ([BitVec.ofNat 8 (n / 256), BitVec.ofNat 8 n] : List Byte)
   let fieldBytes := fun f : Field => (List.range 8).map fun j => (f >>> (8 * (7 - j))).setWidth 8
   let status := fun st : Status => (match st with
     | .ok => 0 | .badKind => 1 | .badTable => 2 | .badIndex => 3 | .badValue => 4 | .readOnly => 5 | .busy => 6
     | .noBudget => 7 | .faultPending => 8 | .refused => 9 : Byte)
   let lane := fun l : LaneState => (match l with | .off => 0 | .aligning => 1 | .up => 2 | .failed => 3 : Byte)
   let bit := fun b : Bool => if b then (1 : Byte) else 0
   let message := fun m : UpMessage => (match m with
     | .readAnswer tag st table index count values =>
       [0x81, tag, status st, table, index, count, 0, BitVec.ofNat 8 (8 * values.length)] ++
         values.flatMap fieldBytes
     | .writeAnswer tag st table index count => [0x82, tag, status st, table, index, count, 0, 0]
     | .commandAnswer tag st code => [0x83, tag, status st, code, 0, 0, 0, 0]
     | .relayAccept tag st lane reason =>
       [0x84, tag, status st, lane,
         (match reason with | .none => 0 | .length => 1 | .laneNotUp => 2 | .queueFull => 3), 0, 0, 0]
     | .relayResult r =>
       [0x85, r.tag, 0, BitVec.ofNat 8 r.lane.val,
         (match r.outcome with | .done => 1 | .failed => 2 | .discarded => 3), BitVec.ofNat 8 r.retries, 0,
         BitVec.ofNat 8 r.payload.length] ++ r.payload
     | .alertNotice flags =>
       [0x86, 0, 0, 0, 0, 0, 0, 3] ++
         (List.range 3).map fun k =>
           BitVec.ofNat 8 ((List.range 8).map fun j => if flags.getLsbD (8 * k + j) then 2 ^ j else 0).sum
     : List Byte)
   let payload := fun c : UpCell => (match c with
     | .fill => []
     | .status c =>
       [bit c.probe.isSome, c.probe.getD 0,
         (match c.timing with | .free => 0 | .locking => 1 | .locked => 2 | .holdover => 3),
         (match c.profile with | .p1 => 1 | .p2 => 2 | .p3 => 3 | .p4 => 4),
         (match c.power with | .dormant => 0 | .rampingUp => 1 | .running => 2 | .rampingDown => 3),
         lane c.lanes[0], lane c.lanes[1], lane c.lanes[2], lane c.lanes[3], BitVec.ofNat 8 c.callCount.val,
         bit c.summary, (match c.depth with | .d10 => 10 | .d12 => 12 | .d14 => 14),
         (match c.indication with | .none => 0 | .reduced => 1 | .truncating => 2)]
     | .video _ => []
     | .mgmt m => message m
     | .aux bs => two bs.length ++ bs : List Byte)
   (∀ c : UpCell, (∀ v : VideoCell, c ≠ .video v) → (payload c).length ≤ 420 → ∀ k : Nat, k < 420 →
     (c.payload >>> (8 * (419 - k))).setWidth 8 = (payload c).getD k 0) ∧
   (∀ v : VideoCell, (UpCell.video v).payload = v.payload) ∧
   (∀ c : UpCell, c.header = (match c with
     | .fill => [0x00, 0, 0, 0, 0, 0, 0, 0]
     | .status _ => [0x10, 0, 0, 0, 0, 0, 0, 0]
     | .mgmt _ => [0x30, 0, 0, 0, 0, 0, 0, 0]
     | .aux _ => [0x40, 0, 0, 0, 0, 0, 0, 0]
     | .video v =>
       [(2#4 ++ BitVec.ofNat 4 v.frame.val : BitVec 8)] ++ two v.line ++ [BitVec.ofNat 8 v.index] ++
         (match v.descriptor with
         | none => [0, 0, 0, 0]
         | some d =>
           [BitVec.ofNat 8 ((match d.depth with | .d10 => 0 | .d12 => 64 | .d14 => 128) + d.totalCells),
             BitVec.ofNat 8 ((if d.truncated then 128 else 0) + d.entryCount)] ++ two d.concealed.toNat)))) ∧
  ((∀ g : Fin 16, (DownItem.frameStart g).words =
      [BitVec.ofNat 16 (0x4000 + g.val), crc16 [BitVec.ofNat 16 (0x4000 + g.val)]]) ∧
   (∀ (tag : Byte) (payload : List Byte),
      let words := (DownItem.relayCommand tag payload).words
      words.length = 3 + (payload.length + 1) / 2 ∧
      words.take 2 = [BitVec.ofNat 16 (0x5000 + tag.toNat), BitVec.ofNat 16 payload.length] ∧
      (∀ k : Nat, k < (payload.length + 1) / 2 →
        words[2 + k]? = some (payload.getD (2 * k) 0 ++ payload.getD (2 * k + 1) 0)) ∧
      words.getLast? = some (crc16 words.dropLast))) ∧
  ((∀ n : Nat, n < 2 ^ 56 → (fieldOfNat n >>> 56).toNat = 1 ∧ (fieldOfNat n).toNat % 2 ^ 56 = n) ∧
   (∀ i : Int, -2 ^ 55 ≤ i → i < 2 ^ 55 →
     (fieldOfInt i >>> 56).toNat = 1 ∧ ((fieldOfInt i).setWidth 56).toInt = i) ∧
   fieldOfOption none = 0 ∧ (∀ n : Nat, fieldOfOption (some n) = fieldOfNat n) ∧
   (∀ a b : Nat, a < 2 ^ 24 → b < 2 ^ 32 →
     (fieldOfPair a b >>> 56).toNat = 1 ∧ (fieldOfPair a b).toNat / 2 ^ 32 % 2 ^ 24 = a ∧
     (fieldOfPair a b).toNat % 2 ^ 32 = b) ∧
   (∀ p : Place, p.width < 2 ^ 16 →
     (fieldOfPlace p).toNat =
       2 ^ 56 + p.lane.val * 2 ^ 48 + p.segment.val * 2 ^ 40 + p.width * 2 ^ 24 + p.correction.val * 2 ^ 16 +
         (if p.seam then 2 ^ 8 else 0) ∧
     placeOfField (fieldOfPlace p) = p))

/-- A departure under an ONLINE link (R71, R84 to R89, R94 to R99, R105 to R107, R112, R113), for a line with or without a
record, under a result that truncates or not, with or without a measurement run, whatever the lanes, the probe and the
commit state are, and whether or not the tick triggers or begins a frame. The bank is the record's stamp, else the
current-frame bank. The Departure Buffer holds the cells of the line: V of them when the result truncates, else as many as
the row needs; cell k carries the k-th part of the row, cell 0 the descriptor. Present entries replace their Held Copy
places, concealed ones are counted, seam records take their differences from the corrected samples and decide at the frame
end, a RUNNING measurement adds the raw samples and completes at its last line, the record is freed. The rest of the tick
is as in every other: the counter, the probe's age (R25), the Frame Starts (R39), the frame bank pair (R76, R77), the
stale counts (R57), the STATUS cell (R13; its alert summary is the model's reading, log 12). No flip falls on the tick. -/
def Obligations.TickDepartsItsLine : Prop :=
  ∀ (s : State) (t : Tick) (rest : List Tick),
    TimingInv s.rtu → s.tle.link = .online → s.rtu.timing.ticking = true → s.rtu.ticks = t :: rest →
    noFlipAt t.label s →
    s.rtu.settings.latency ≤ t.label.num → t.label.num - s.rtu.settings.latency < s.rtu.settings.active →
      let g := s.tle.degrade
      let line := t.label.num - s.rtu.settings.latency
      let las := s.las.ticked s.rtu t.label
      let record := s.las.records.find? fun r => r.frame == t.label.frame && r.line == line
      let bank := match record with
        | some r => r.stamp
        | none => las.currentBank
      let present := match record with
        | some r => r.present
        | none => []
      let es := (s.las.map bank).entries
      let samples := fun p : Place =>
        (present.find? fun x => x.lane == p.lane && x.segment == p.segment).map Segment.samples
      let ds := departingEntries s.ldu es present
      let row := ds.flatMap Departing.corrected
      let total := if es = [] then 0 else if g.truncating then g.v else (row.length + g.depth.perCell - 1) / g.depth.perCell
      let missing := es.filter fun p => (samples p).isNone
      let fed := s.ldu.seams.map (SeamRecord.fedBy es present ds)
      ∃ u, exec .headLineTick s = .next u ∧
        u.tle.buffer.length = total ∧
        (∀ (k : Nat) (c : VideoCell), u.tle.buffer[k]? = some c →
          c.frame = t.label.frame ∧ c.line = line ∧ c.index = k ∧ (k ≠ 0 → c.descriptor = none) ∧
          (k = 0 → ∃ x : Descriptor, c.descriptor = some x ∧
            x.frame = t.label.frame ∧ x.line = line ∧ x.depth = g.depth ∧ x.entryCount = es.length ∧
            x.truncated = g.truncating ∧ x.totalCells = total ∧
            ∀ m : Fin 16, x.concealed.getLsbD m = (es[m.val]?.map fun p => (samples p).isNone).getD false) ∧
          c.payload = packPayload g.depth
            (((row.map (requantize g.depth)).drop (k * g.depth.perCell)).take g.depth.perCell)) ∧
        (es.Pairwise (fun p q => ¬(p.lane = q.lane ∧ p.segment = q.segment)) →
          ∀ p ∈ es, ∀ xs : List Sample, samples p = some xs →
            u.ldu.held[heldIndex p.lane p.segment] = { valid := true, width := p.width, samples := xs }) ∧
        (∀ lane segment : Fin 4, (∀ p ∈ es, p.lane = lane → p.segment = segment → samples p = none) →
          u.ldu.held[heldIndex lane segment] = s.ldu.held[heldIndex lane segment]) ∧
        u.ldu.seams = decidedAt s.rtu.settings t.label s.slr.seam fed ∧
        (s.ldu.run.state ≠ .running → u.ldu.run = s.ldu.run ∧ u.ldu.correction = s.ldu.correction) ∧
        (s.ldu.run.state = .running →
          u.ldu.run.lines = s.ldu.run.lines + 1 ∧ u.ldu.run.n = s.ldu.run.n ∧ u.ldu.run.apply = s.ldu.run.apply ∧
          u.ldu.run.cause = s.ldu.run.cause ∧
          (∀ i : Fin 16,
            let mine := es.filter fun p => p.correction == i && (samples p).isSome
            u.ldu.run.acc[i].sum = s.ldu.run.acc[i].sum +
              (mine.map fun p => (((samples p).getD []).map BitVec.toNat).sum).sum ∧
            u.ldu.run.acc[i].count = s.ldu.run.acc[i].count + (mine.map Place.width).sum) ∧
          (s.ldu.run.lines + 1 < s.ldu.run.n →
            u.ldu.run.state = .running ∧ u.ldu.run.results = s.ldu.run.results ∧
            u.ldu.run.applied = s.ldu.run.applied ∧ u.ldu.correction = s.ldu.correction) ∧
          (s.ldu.run.n ≤ s.ldu.run.lines + 1 →
            u.ldu.run.state = .complete ∧ u.ldu.run.applied = (s.ldu.run.applied || s.ldu.run.apply) ∧
            (∀ i : Fin 16, u.ldu.run.acc[i].count = 0 → u.ldu.run.results[i] = none) ∧
            (∀ (i : Fin 16) (m : Nat), 0 < u.ldu.run.acc[i].count →
              m * u.ldu.run.acc[i].count ≤ u.ldu.run.acc[i].sum + u.ldu.run.acc[i].count / 2 →
              u.ldu.run.acc[i].sum + u.ldu.run.acc[i].count / 2 < (m + 1) * u.ldu.run.acc[i].count →
                u.ldu.run.results[i] = some (BitVec.ofNat 12 (min 4095 m))) ∧
            (∀ i : Fin 16, u.ldu.correction[i] =
              if s.ldu.run.apply then
                { s.ldu.correction[i] with black := u.ldu.run.results[i].getD s.ldu.correction[i].black }
              else s.ldu.correction[i]))) ∧
        (let l := if s.tle.buffer = [] then s.lma else s.lma.addCount .truncatedLine 1
         let l := l.probeReport s.rtu
         let l := if missing = [] then l else (l.addCount .concealedSegment missing.length).raise .concealment
         let l := if g.truncating = true ∧ es ≠ [] then l.addCount .truncatedLine 1 else l
         let l := if s.ldu.run.state = .running ∧ s.ldu.run.n ≤ s.ldu.run.lines + 1 then l.raise .measureDone else l
         u.lma = ((l.seamReport s.rtu.settings t.label s.slr.seam fed).staleReport s.rtu.settings.total
          s.slr).placeNotice s.lma.flags) ∧
        u.las = { las with records := s.las.records.filter fun x =>
          !(x.frame == t.label.frame && x.line == line) } ∧
        u.slr = s.slr.ticked s.rtu.settings.total ∧ u.bcr = s.bcr ∧ u.bss = s.bss ∧ u.acu = s.acu ∧
        u.rtu = s.rtu.aged.ticked t.label rest ∧
        u.tle = { s.tle with
          buffer := u.tle.buffer
          superframe := some { bank := s.tle.active, slot := 0, cell := s.statusNow none } } ∧
        u.out = s.slr.frameStarts (triggerOf s.rtu.settings t.label) ++ [.slot 0 (s.statusNow none)] ∧
        u.pending = s.pending

/-- The source of an entry (R88) and its corrected samples: the record's where it holds the entry, else the Held Copy's
of equal width, else the pedestal in each of its samples. -/
def Obligations.SourceOfAnEntry : Prop :=
  ∀ (l : Ldu) (es : List Place) (present : List Segment) (k : Nat) (p : Place), es[k]? = some p →
    ∃ d, (departingEntries l es present)[k]? = some d ∧ d.place = p ∧
      (∀ x, (present.find? fun x => x.lane == p.lane && x.segment == p.segment) = some x →
        d.source.conceals = false ∧ d.corrected = x.samples.map (correct l.correction[p.correction])) ∧
      ((∀ x ∈ present, ¬(x.lane = p.lane ∧ x.segment = p.segment)) →
        d.source.conceals = true ∧
        (l.held[heldIndex p.lane p.segment].valid = true → l.held[heldIndex p.lane p.segment].width = p.width →
          d.corrected = l.held[heldIndex p.lane p.segment].samples.map (correct l.correction[p.correction])) ∧
        (l.held[heldIndex p.lane p.segment].valid = false ∨ l.held[heldIndex p.lane p.segment].width ≠ p.width →
          d.corrected = List.replicate p.width l.correction[p.correction].pedestal.toNat))

/-- R114: the seam decision of every record at a frame end: the average, whether the frame counts, and the change of
state at the Seam Queue with SEAM raised; without lines nothing is decided; the frame's sums are cleared. The frame end is
the head line tick at which line Active - 1 is due (R113): in ONLINE the records decide after the departed line's own
contribution, else from the lines so far. No flip falls on the tick. -/
def Obligations.SeamDecision : Prop :=
  (∀ (s : State) (t : Tick) (rest : List Tick),
    TimingInv s.rtu → s.rtu.ticks = t :: rest → t.label.num + 1 = s.rtu.settings.active + s.rtu.settings.latency →
    ¬(s.las.commit = .draining ∧ s.las.flipMark = false ∧ s.las.switchFrame = some t.label.frame ∧
      t.label.num = s.rtu.settings.latency) →
      let record := s.las.records.find? fun r =>
        r.frame == t.label.frame && r.line == s.rtu.settings.active - 1
      let bank := match record with
        | some r => r.stamp
        | none => (s.las.ticked s.rtu t.label).currentBank
      let present := match record with
        | some r => r.present
        | none => []
      let es := (s.las.map bank).entries
      let fed := if s.tle.link = .online then
          s.ldu.seams.map (SeamRecord.fedBy es present (departingEntries s.ldu es present))
        else s.ldu.seams
      ∃ u, exec .headLineTick s = .next u ∧
        u.ldu.seams = fed.map (fun r => (decideSeam s.slr.seam r).1) ∧
        u.lma.flag .seam = (s.lma.flag .seam || fed.any fun r => (decideSeam s.slr.seam r).2)) ∧
  ∀ (g : SeamSettings) (r : SeamRecord),
    (r.lines = 0 → decideSeam g r = ({ r with sumDiff := 0, lines := 0 }, false)) ∧
    (∀ D : Int, 0 < r.lines →
      D * r.lines ≤ r.sumDiff + ((r.lines / 2 : Nat) : Int) →
      r.sumDiff + ((r.lines / 2 : Nat) : Int) < (D + 1) * r.lines →
      let counts : Prop := if r.isOpen then (D.natAbs : Int) ≤ (g.threshold : Int) - g.hysteresis
                           else (g.threshold : Int) + g.hysteresis ≤ D.natAbs
      (¬ counts →
        decideSeam g r = ({ r with sumDiff := 0, lines := 0, lastD := some D, run := 0 }, false)) ∧
      (counts → r.run + 1 < g.queue →
        decideSeam g r = ({ r with sumDiff := 0, lines := 0, lastD := some D, run := r.run + 1 }, false)) ∧
      (counts → g.queue ≤ r.run + 1 →
        decideSeam g r = ({ r with sumDiff := 0, lines := 0, lastD := some D, run := 0, isOpen := !r.isOpen }, true)))

/-! ## Lanes (03) -/

/-- A lane word and the alignment timer in ALIGNING (R44 to R46): a good idle word raises the idle run, the thirty-second
takes the lane to UP, any other word sets the run to 0, and the expiry fails the lane. That every control word of kind code 0 is an idle word,
whatever its other bits, is the model's choice (log 22). In any other state the word and the expiry are void, which for the
timer is the model's choice (log 1). -/
def Obligations.AlignmentOfALane : Prop :=
  ∀ (s : State) (i : Fin 4) (w : LaneWord),
    (s.slr.lanes[i].state = .aligning →
      (w.control = true → w.codingError = false → kindCode w.bits = 0 → s.slr.lanes[i].idleRun < 31 →
        exec (.laneWordAligning i w) s = .next { s with
          slr := s.slr.setLane i
            { s.slr.lanes[i] with idleRun := s.slr.lanes[i].idleRun + 1 }
          out := [] }) ∧
      (w.control = true → w.codingError = false → kindCode w.bits = 0 → s.slr.lanes[i].idleRun = 31 →
        exec (.laneWordAligning i w) s = .next { s with
          slr := s.slr.setLane i
            { s.slr.lanes[i] with state := .up, idleRun := 32, alignTimer := false, errCount := 0, candidate := none
                                  staleCount := 0, stale := false }
          lma := (s.lma.raise .laneState).placeNotice s.lma.flags
          out := [] }) ∧
      (w.control = false ∨ w.codingError = true ∨ kindCode w.bits ≠ 0 →
        exec (.laneWordAligning i w) s = .next { s with
          slr := s.slr.setLane i { s.slr.lanes[i] with idleRun := 0 }, out := [] }) ∧
      (s.slr.lanes[i].alignTimer = true →
        exec (.alignmentTimerExpiry i) s = .next { s with
          slr := s.slr.setLane i
            { s.slr.lanes[i] with state := .failed, alignTimer := false, errCount := 0, candidate := none
                                  staleCount := 0, stale := false }
          lma := (s.lma.raise .laneState).placeNotice s.lma.flags
          out := [] })) ∧
    (s.slr.lanes[i].state ≠ .aligning →
      exec (.laneWordAligning i w) s = .next { s with out := [] } ∧
      exec (.alignmentTimerExpiry i) s = .next { s with out := [] })

/-- Items of a lane (R49 to R52, R54 to R56, R179): a good status word feeds the watch; an item that fails its check, a status
word of another length than two words among them, counts BAD_CHECK, and one whose check passes with a wrong length counts
BAD_LENGTH; each is one lane error, and the error that reaches the threshold fails the lane, here with no request of its
own or one in flight, which is DISCARDED (R126); an idle word, and any item out of UP, does nothing. That the bits 11 to 0 of
a status word's control word are ignored is the model's choice (log 17), and that every control word of kind code 0 is an
idle word is too (log 22). No lane has a result to deliver. -/
def Obligations.StatusWordsAndLaneErrors : Prop :=
  ∀ (s : State) (i : Fin 4), (∀ j : Fin 4, s.bcr[j].headDecided = false) →
    (s.slr.lanes[i].state = .up →
      (∀ (c w : LaneBits), kindCode c = 2 →
        let item : LaneItem := { control := c, data := [w, crc16 [c, w]], codingError := false }
        let l := s.slr.lanes[i]
        let differs : Prop :=
          match l.watchMode with
          | .event => w &&& l.watchMask ≠ l.latched &&& l.watchMask
          | .matching => w &&& l.watchMask = l.watchCompare &&& l.watchMask ∧
              l.latched &&& l.watchMask ≠ l.watchCompare &&& l.watchMask
        (l.candidate ≠ some w →
          exec (.laneItemArrival i item) s = .next { s with
            slr := s.slr.setLane i
              { l with lastWord := some w, staleCount := 0, stale := false, candidate := some w, errCount := 0 }
            out := [] }) ∧
        (l.candidate = some w → ¬ differs →
          exec (.laneItemArrival i item) s = .next { s with
            slr := s.slr.setLane i
              { l with lastWord := some w, staleCount := 0, stale := false, latched := w, errCount := 0 }
            out := [] }) ∧
        (l.candidate = some w → differs →
          exec (.laneItemArrival i item) s = .next { s with
            slr := s.slr.setLane i
              { l with lastWord := some w, staleCount := 0, stale := false, latched := w, eventMark := true
                       errCount := 0 }
            lma := (s.lma.raise .boardStatus).placeNotice s.lma.flags
            out := [] })) ∧
      (∀ item : LaneItem,
        let kind := kindCode item.control
        let checked : Prop :=
          item.codingError = false ∧ crc16 (item.control :: item.data.dropLast) = item.data.getLastD 0
        let samples := (item.data.getD 1 0).toNat
        let payload := (item.data.getD 0 0).toNat
        let fails : Prop :=
          kind ≠ 0 ∧ ¬ checked ∨ 3 < kind ∨ kind = 1 ∧ item.data.length < 3 ∨ kind = 2 ∧ item.data.length ≠ 2 ∨
            kind = 3 ∧ item.data.length < 2
        let wrongLength : Prop :=
          checked ∧
            (kind = 1 ∧ 3 ≤ item.data.length ∧
                (samples = 0 ∨ 4096 < samples ∨ item.data.length ≠ samples + 3) ∨
              kind = 3 ∧ 2 ≤ item.data.length ∧
                (32 < payload ∨ item.data.length ≠ (payload + 1) / 2 + 2))
        ∀ c : Counter, c = .badCheck ∧ fails ∨ c = .badLength ∧ wrongLength →
          (s.slr.lanes[i].errCount + 1 < s.slr.lanes[i].errThreshold →
            exec (.laneItemArrival i item) s = .next { s with
              slr := s.slr.setLane i
                { s.slr.lanes[i] with
                  errCount := s.slr.lanes[i].errCount + 1
                  candidate := if kind = 2 then none else s.slr.lanes[i].candidate }
              lma := s.lma.addCount c 1
              out := [] }) ∧
          (s.slr.lanes[i].errThreshold ≤ s.slr.lanes[i].errCount + 1 →
            let failed := s.slr.setLane i
              { s.slr.lanes[i] with
                state := .failed, errCount := 0, candidate := none, staleCount := 0, stale := false }
            let report := ((s.lma.addCount c 1).raise .laneState).placeNotice s.lma.flags
            (s.bcr[i].queue = [] → s.bcr[i].timer = false →
              exec (.laneItemArrival i item) s = .next { s with slr := failed, lma := report, out := [.cutOff i] }) ∧
            (∀ r : Request, s.bcr[i] = { queue := [r], timer := true, held := none } → r.status = .inFlight →
              s.lma.egress.length < 7 →
                exec (.laneItemArrival i item) s = .next { s with
                  slr := failed
                  bcr := s.bcr.set i { queue := [], timer := false, held := none }
                  lma := report.place (.relayResult
                    { tag := r.tag, lane := i, outcome := .discarded, retries := r.retries, payload := [] })
                  out := [.cutOff i] })))) ∧
    (∀ item : LaneItem, s.slr.lanes[i].state ≠ .up ∨ kindCode item.control = 0 →
      exec (.laneItemArrival i item) s = .next { s with out := [] })

/-- The acceptance of a tile packet (R65 to R69), its fields read from its words by Table 13-4 and R179: the frame tag from
bits 11 to 8 of the control word and the segment id from bits 1 to 0, the line number, the sample count, one sample in bits
13 to 0 of each word after it, and a CRC-16 that agrees. That bits 7 to 2 of the control word are ignored is the model's
choice (log 17). The tests come in their order, each discard with its counter and SEGMENT_DISCARD, a width mismatch as a
lane error, which at the threshold fails the lane, here with no request of its own or one in flight, which is DISCARDED
(R51, R52, R126), and the samples stored in their line's record or in one opened for it. No lane has a result to deliver. -/
def Obligations.TilePacketIsAccepted : Prop :=
  ∀ (s : State) (i : Fin 4) (control line n : LaneBits) (ws : List LaneBits),
    s.slr.lanes[i].state = .up → (∀ j : Fin 4, s.bcr[j].headDecided = false) →
    control.toNat / 4096 = 1 → n.toNat = ws.length → 1 ≤ ws.length → ws.length ≤ 4096 →
      let item : LaneItem :=
        { control := control, data := line :: n :: ws ++ [crc16 (control :: line :: n :: ws)], codingError := false }
      let p : TilePacket :=
        { frame := Fin.ofNat 16 (control.toNat / 256), segment := Fin.ofNat 4 control.toNat, line := line.toNat
          count := ws.length, samples := ws.map fun w => BitVec.ofNat 14 w.toNat }
      let good := s.slr.setLane i { s.slr.lanes[i] with errCount := 0 }
      let drop := fun c : Counter => { s with
        slr := good, lma := ((s.lma.addCount c 1).raise .segmentDiscard).placeNotice s.lma.flags, out := [] }
      let total := s.rtu.settings.total
      (s.rtu.settings.active ≤ p.line → exec (.laneItemArrival i item) s = .next (drop .outOfRange)) ∧
      (p.line < s.rtu.settings.active →
        (s.rtu.head = none → exec (.laneItemArrival i item) s = .next (drop .early)) ∧
        (∀ h : Label, s.rtu.head = some h →
          (h.frame ≠ p.frame → s.rtu.triggered ≠ some p.frame →
            exec (.laneItemArrival i item) s = .next (drop .early)) ∧
          (h.frame = p.frame ∨ s.rtu.triggered = some p.frame →
            ∀ d : Nat, d < 16 * total →
              (h.frame.val * total + h.num + d) % (16 * total) =
                (p.frame.val * total + p.line + s.rtu.settings.latency) % (16 * total) →
              (d = 0 ∨ 16 < d ∧ 8 * total < d → exec (.laneItemArrival i item) s = .next (drop .late)) ∧
              (16 < d → d ≤ 8 * total → exec (.laneItemArrival i item) s = .next (drop .early)) ∧
              (1 ≤ d → d ≤ 16 →
                let record := s.las.records.find? fun r => r.frame == p.frame && r.line == p.line
                let bank := match record with
                  | some r => r.stamp
                  | none => if s.rtu.triggered = some p.frame then s.las.triggeredBank else s.las.currentBank
                let entries := (s.las.map bank).entries
                ((∀ e ∈ entries, ¬(e.lane = i ∧ e.segment = p.segment)) →
                  exec (.laneItemArrival i item) s = .next (drop .unknownSegment)) ∧
                (∀ e : Place, (entries.find? fun e => e.lane == i && e.segment == p.segment) = some e →
                  (p.count ≠ e.width → s.slr.lanes[i].errCount + 1 < s.slr.lanes[i].errThreshold →
                    exec (.laneItemArrival i item) s = .next { s with
                      slr := s.slr.setLane i
                        { s.slr.lanes[i] with errCount := s.slr.lanes[i].errCount + 1 }
                      lma := s.lma.addCount .badLength 1
                      out := [] }) ∧
                  (p.count ≠ e.width → s.slr.lanes[i].errThreshold ≤ s.slr.lanes[i].errCount + 1 →
                    let failed := s.slr.setLane i
                      { s.slr.lanes[i] with
                        state := .failed, errCount := 0, candidate := none, staleCount := 0, stale := false }
                    let report := ((s.lma.addCount .badLength 1).raise .laneState).placeNotice s.lma.flags
                    (s.bcr[i].queue = [] → s.bcr[i].timer = false →
                      exec (.laneItemArrival i item) s = .next { s with
                        slr := failed, lma := report, out := [.cutOff i] }) ∧
                    (∀ r : Request, s.bcr[i] = { queue := [r], timer := true, held := none } → r.status = .inFlight →
                      s.lma.egress.length < 7 →
                        exec (.laneItemArrival i item) s = .next { s with
                          slr := failed
                          bcr := s.bcr.set i { queue := [], timer := false, held := none }
                          lma := report.place (.relayResult
                            { tag := r.tag, lane := i, outcome := .discarded, retries := r.retries, payload := [] })
                          out := [.cutOff i] })) ∧
                  (p.count = e.width → ∀ r : LineRecord, record = some r →
                    (∃ x ∈ r.present, x.lane = i ∧ x.segment = p.segment) →
                      exec (.laneItemArrival i item) s = .next (drop .duplicate)) ∧
                  (p.count = e.width → ∀ r : LineRecord, record = some r → RecordsInv s.las →
                    (∀ x ∈ r.present, ¬(x.lane = i ∧ x.segment = p.segment)) →
                      let present := r.present ++ [{ lane := i, segment := p.segment, samples := p.samples }]
                      exec (.laneItemArrival i item) s = .next { s with
                        slr := good
                        las := { s.las with records := s.las.records.map fun q =>
                          if q = r then { r with
                            present := present
                            complete := entries.all fun e =>
                              present.any fun x => x.lane == e.lane && x.segment == e.segment }
                          else q }
                        out := [] }) ∧
                  (p.count = e.width → record = none → s.las.records.length < 16 →
                    exec (.laneItemArrival i item) s = .next { s with
                      slr := good
                      las := { s.las with records := s.las.records ++
                        [{ frame := p.frame, line := p.line, stamp := bank
                           complete := entries.all fun e => e.lane == i && e.segment == p.segment
                           present := [{ lane := i, segment := p.segment, samples := p.samples }] }] }
                      out := [] }))))))

/-! ## Relay (07) and lane commands -/

/-- RELAY (R119 to R121): the tests in their order with the reason of a refusal; an accepted request goes in flight at
once on an idle lane and waits behind the one in flight. -/
def Obligations.RelayIsJudgedAndQueued : Prop :=
  ∀ (s : State) (f : RelayFields), AtRest s → f.length.toNat ≤ 240 →
    let answered := fun (st : Status) (reason : RelayReason) => s.lma.place (.relayAccept f.tag st f.lane reason)
    (4 ≤ f.lane.toNat →
      exec (.relay f) s = .next { s with lma := answered .badValue .none, out := [] }) ∧
    (∀ i : Fin 4, f.lane.toNat = i.val →
      (f.length = 0 ∨ 32 < f.length.toNat →
        exec (.relay f) s = .next { s with lma := answered .refused .length, out := [] }) ∧
      (1 ≤ f.length.toNat → f.length.toNat ≤ 32 →
        (s.slr.lanes[i].state ≠ .up →
          exec (.relay f) s = .next { s with lma := answered .refused .laneNotUp, out := [] }) ∧
        (s.slr.lanes[i].state = .up → 4 ≤ s.bcr[i].queue.length →
          exec (.relay f) s = .next { s with lma := answered .refused .queueFull, out := [] }) ∧
        (s.slr.lanes[i].state = .up → s.bcr[i] = { queue := [], timer := false, held := none } →
          exec (.relay f) s = .next { s with
            bcr := s.bcr.set i
              { queue := [{ tag := f.tag, payload := f.body.take f.length.toNat, status := .inFlight, answer := []
                            retries := 0 }]
                timer := true, held := none }
            lma := answered .ok .none
            out := [.downlink i (.relayCommand f.tag (f.body.take f.length.toNat))] }) ∧
        (s.slr.lanes[i].state = .up → s.bcr[i].queue.length < 4 → (∃ r ∈ s.bcr[i].queue, r.status = .inFlight) →
          exec (.relay f) s = .next { s with
            bcr := s.bcr.set i { s.bcr[i] with
              queue := s.bcr[i].queue ++
                [{ tag := f.tag, payload := f.body.take f.length.toNat, status := .waiting, answer := []
                   retries := 0 }] }
            lma := answered .ok .none
            out := [] })))

/-- Relay answers and the answer timer (R122, R123, R125, R127). An answer is read from its words by Table 13-4 and R179: the
tag from bits 7 to 0 of the control word, the payload length, the payload two bytes a word with the high byte first, and a
CRC-16 that agrees; that bits 11 to 8 of the control word are ignored is the model's choice (log 17). The answer with the tag
in flight completes the request and its result goes to Egress or, when that is full, into the held-result place; any other is a stray. The timer sends the
command again below the Retry Limit and else fails the request; when it does not run nothing expires, which is the
model's choice (log 1). The lane has one request, and no other lane has a result to deliver. -/
def Obligations.RelayAnswersAndRetries : Prop :=
  ∀ (s : State) (i : Fin 4) (control n : LaneBits) (ws : List LaneBits),
    (∀ j : Fin 4, s.bcr[j].headDecided = false) → control.toNat / 4096 = 3 → n.toNat ≤ 32 →
    ws.length = (n.toNat + 1) / 2 →
    let item : LaneItem :=
      { control := control, data := n :: ws ++ [crc16 (control :: n :: ws)], codingError := false }
    let tag : Byte := BitVec.ofNat 8 control.toNat
    let payload : List Byte :=
      (ws.flatMap fun w => [BitVec.ofNat 8 (w.toNat / 256), BitVec.ofNat 8 w.toNat]).take n.toNat
    let good := s.slr.setLane i { s.slr.lanes[i] with errCount := 0 }
    (s.slr.lanes[i].state = .up → (∀ r ∈ s.bcr[i].queue, r.status = .inFlight → r.tag ≠ tag) →
      exec (.laneItemArrival i item) s = .next { s with
        slr := good, lma := s.lma.addCount .strayAnswer 1, out := [] }) ∧
    ((∀ r ∈ s.bcr[i].queue, r.status ≠ .inFlight) ∨ s.bcr[i].timer = false →
      exec (.answerTimerExpiry i) s = .next { s with out := [] }) ∧
    (∀ r : Request, s.bcr[i] = { queue := [r], timer := true, held := none } → r.status = .inFlight →
      let result := fun (o : RelayOutcome) (bytes : List Byte) =>
        ({ tag := r.tag, lane := i, outcome := o, retries := r.retries, payload := bytes } : RelayResult)
      (s.slr.lanes[i].state = .up → r.tag = tag →
        (s.lma.egress.length < 8 →
          exec (.laneItemArrival i item) s = .next { s with
            slr := good
            bcr := s.bcr.set i { queue := [], timer := false, held := none }
            lma := s.lma.place (.relayResult (result .done payload))
            out := [] }) ∧
        (8 ≤ s.lma.egress.length →
          exec (.laneItemArrival i item) s = .next { s with
            slr := good
            bcr := s.bcr.set i { queue := [], timer := false, held := some (result .done payload) }
            out := [] })) ∧
      (r.retries < s.slr.lanes[i].retryLimit →
        exec (.answerTimerExpiry i) s = .next { s with
          bcr := s.bcr.set i { queue := [{ r with retries := r.retries + 1 }], timer := true, held := none }
          lma := s.lma.addCount .relayRetry 1
          out := [.downlink i (.relayCommand r.tag r.payload)] }) ∧
      (s.slr.lanes[i].retryLimit ≤ r.retries → s.lma.egress.length < 8 →
        exec (.answerTimerExpiry i) s = .next { s with
          bcr := s.bcr.set i { queue := [], timer := false, held := none }
          lma := s.lma.place (.relayResult (result .failed []))
          out := [] }) ∧
      (s.slr.lanes[i].retryLimit ≤ r.retries → 8 ≤ s.lma.egress.length →
        exec (.answerTimerExpiry i) s = .next { s with
          bcr := s.bcr.set i { queue := [], timer := false, held := some (result .failed []) }
          out := [] }))

/-- LANE_RESET (R58, R126) and the stale watch (R57): the reset restarts alignment of a lane whose supply is GOOD, clears the
error count and the watch, and discards the lane's request behind the answer; a lane number above 3 is refused. A tick,
here one out of ONLINE whose line is a blanking line, raises the stale count of every UP lane to at most 9000, and a lane
whose count reaches twice Total Lines begins a stale episode with STATUS_STALE, once until a status word ends it.
STALE_EPISODE as a command of its own begins an episode that is due and finds nothing to do otherwise, which is the
model's choice (log 16). -/
def Obligations.LaneResetAndStaleEpisode : Prop :=
  (∀ (s : State) (f : CommandFields), AtRest s → f.length = 1 →
    (4 ≤ (byteAt f.body 0).toNat →
      exec (.laneReset f) s = .next { s with lma := s.lma.place (.commandAnswer f.tag .badValue 5), out := [] }) ∧
    (∀ i : Fin 4, (byteAt f.body 0).toNat = i.val →
      let reset := fun st : LaneState => s.slr.setLane i
        { s.slr.lanes[i] with state := st, idleRun := 0, alignTimer := true, errCount := 0, candidate := none
                              staleCount := 0, stale := false }
      let answered := s.lma.place (.commandAnswer f.tag .ok 5)
      (s.bcr[i].queue = [] → s.bcr[i].timer = false →
        (s.slr.lanes[i].supplyGood = false →
          exec (.laneReset f) s = .next { s with
            slr := s.slr.setLane i
              { s.slr.lanes[i] with errCount := 0, candidate := none, staleCount := 0, stale := false }
            lma := answered
            out := [] }) ∧
        (s.slr.lanes[i].supplyGood = true → s.slr.lanes[i].state = .aligning →
          exec (.laneReset f) s = .next { s with slr := reset .aligning, lma := answered, out := [] }) ∧
        (s.slr.lanes[i].supplyGood = true → s.slr.lanes[i].state ≠ .aligning →
          exec (.laneReset f) s = .next { s with
            slr := reset .aligning
            lma := (answered.raise .laneState).placeNotice s.lma.flags
            out := if s.slr.lanes[i].state = .up then [.cutOff i] else [] })) ∧
      (∀ r : Request, s.bcr[i] = { queue := [r], timer := true, held := none } → r.status = .inFlight →
        s.slr.lanes[i].supplyGood = true → s.slr.lanes[i].state = .up → s.lma.egress.length < 6 →
          exec (.laneReset f) s = .next { s with
            slr := reset .aligning
            bcr := s.bcr.set i { queue := [], timer := false, held := none }
            lma := ((answered.raise .laneState).placeNotice s.lma.flags).place (.relayResult
              { tag := r.tag, lane := i, outcome := .discarded, retries := r.retries, payload := [] })
            out := [.cutOff i] }))) ∧
  (∀ (s : State) (i : Fin 4),
    (s.slr.lanes[i].state = .up → s.slr.lanes[i].stale = false → 2 * s.rtu.settings.total ≤ s.slr.lanes[i].staleCount →
      exec (.staleEpisode i) s = .next { s with
        slr := s.slr.setLane i { s.slr.lanes[i] with stale := true }
        lma := (s.lma.raise .statusStale).placeNotice s.lma.flags
        out := [] }) ∧
    (s.slr.lanes[i].state ≠ .up ∨ s.slr.lanes[i].stale = true ∨
      s.slr.lanes[i].staleCount < 2 * s.rtu.settings.total →
      exec (.staleEpisode i) s = .next { s with out := [] })) ∧
  (∀ (s : State) (t : Tick) (rest : List Tick) (h : Label),
    s.tle.link ≠ .online → s.tle.superframe = none → s.tle.buffer = [] →
    s.rtu.ticks = t :: rest → s.rtu.head = some h → h.frame = t.label.frame → s.rtu.probe = none →
    triggerOf s.rtu.settings t.label = none → s.las.commit = .none →
    s.rtu.settings.latency ≤ t.label.num → s.rtu.settings.active ≤ t.label.num - s.rtu.settings.latency →
      let count := fun l : Lane => min 9000 (l.staleCount + 1)
      let begins := fun l : Lane =>
        l.state = .up ∧ l.stale = false ∧ 2 * s.rtu.settings.total ≤ min 9000 (l.staleCount + 1)
      exec .headLineTick s = .next { s with
        rtu := { s.rtu with head := some t.label, ticks := rest }
        slr := { s.slr with lanes := Vector.ofFn fun i =>
          if s.slr.lanes[i].state = .up then
            { s.slr.lanes[i] with
              staleCount := count s.slr.lanes[i]
              stale := s.slr.lanes[i].stale || decide (2 * s.rtu.settings.total ≤ count s.slr.lanes[i]) }
          else s.slr.lanes[i] }
        lma := (if begins s.slr.lanes[0] ∨ begins s.slr.lanes[1] ∨ begins s.slr.lanes[2] ∨ begins s.slr.lanes[3] then
            s.lma.raise .statusStale else s.lma).placeNotice s.lma.flags
        out := [] })

/-! ## Commit and measurement (04, 06) -/

/-- COMMIT (R62, R73 to R75) and CANCEL_COMMIT (R80), by commit state, with the validity of the shadow map and the V of
the shadow Slot Schedule written out. -/
def Obligations.CommitAndItsCancel : Prop :=
  ∀ (s : State) (f : CommandFields), AtRest s → f.length = 0 →
    let es := (s.las.map s.las.active.other).entries
    let b := s.tle.sched s.tle.active.other
    let budget := s.tle.profile.budget
    let answer := fun (st : Status) (code : Byte) => s.lma.place (.commandAnswer f.tag st code)
    let valid : Prop :=
      es.Pairwise (fun p q => ¬(p.lane = q.lane ∧ p.segment = q.segment)) ∧ (es.map Place.width).sum ≤ 8192 ∧
      ∀ (k : Nat) (p : Place), es[k]? = some p → p.seam = true →
        8 ≤ p.width ∧ ∃ q : Place, es[k + 1]? = some q ∧ 8 ≤ q.width
    let fits : Prop :=
      (∃ k, 1 ≤ k ∧ k < budget ∧ b.entry k = .mgmt) ∧
      (es.map Place.width).sum ≤
        ((List.range budget).filter fun k => 1 ≤ k ∧ b.entry k = .video).length * b.depth.perCell
    (s.las.commit ≠ .none → exec (.commit f) s = .next { s with lma := answer .busy 3, out := [] }) ∧
    (s.las.commit = .none → ¬ valid → exec (.commit f) s = .next { s with lma := answer .badValue 3, out := [] }) ∧
    (s.las.commit = .none → valid → ¬ fits →
      exec (.commit f) s = .next { s with lma := answer .noBudget 3, out := [] }) ∧
    (s.las.commit = .none → valid → fits →
      exec (.commit f) s = .next { s with
        las := { s.las with commit := .pending, target := some s.las.active.other, switchFrame := none
                            flipMark := false }
        lma := answer .ok 3
        out := [] }) ∧
    (s.las.commit = .none → exec (.cancelCommit f) s = .next { s with lma := answer .ok 4, out := [] }) ∧
    (s.las.commit = .pending →
      exec (.cancelCommit f) s = .next { s with
        las := { s.las with commit := .none, target := none }, lma := answer .ok 4, out := [] }) ∧
    (s.las.commit = .draining → exec (.cancelCommit f) s = .next { s with lma := answer .busy 4, out := [] })

/-- MEASURE_START (R104), MEASURE_ABORT (R108) and MEASURE_COMPLETE (R106, R107): the run prepared, refused, aborted, and
completed with the rounded and clamped mean of each index that has samples. As a command of its own the completion finds
nothing to do unless a run is due, which is the model's choice (log 16). -/
def Obligations.MeasurementRun : Prop :=
  (∀ (s : State) (f : CommandFields), AtRest s → f.body.length = 240 →
    let answer := fun (st : Status) (code : Byte) => s.lma.place (.commandAnswer f.tag st code)
    let n := (byteAt f.body 0).toNat * 256 + (byteAt f.body 1).toNat
    (f.length = 3 → n = 0 ∨ 1 < (byteAt f.body 2).toNat →
      exec (.measureStart f) s = .next { s with lma := answer .badValue 6, out := [] }) ∧
    (f.length = 3 → 1 ≤ n → (byteAt f.body 2).toNat ≤ 1 →
      (s.ldu.run.state = .running → exec (.measureStart f) s = .next { s with lma := answer .busy 6, out := [] }) ∧
      (s.ldu.run.state ≠ .running →
        exec (.measureStart f) s = .next { s with
          ldu := { s.ldu with run :=
            { state := .running, n := n, apply := (byteAt f.body 2).toNat = 1, lines := 0, cause := .none
              applied := false, acc := Vector.replicate 16 { sum := 0, count := 0 }
              results := Vector.replicate 16 none } }
          lma := answer .ok 6
          out := [] })) ∧
    (f.length = 0 → s.ldu.run.state ≠ .running →
      exec (.measureAbort f) s = .next { s with lma := answer .ok 7, out := [] }) ∧
    (f.length = 0 → s.ldu.run.state = .running →
      exec (.measureAbort f) s = .next { s with
        ldu := { s.ldu with run := { s.ldu.run with state := .aborted, cause := .measureAbort } }
        lma := ((answer .ok 7).raise .measureDone).placeNotice s.lma.flags
        out := [] })) ∧
  (∀ s : State,
    (s.ldu.run.state ≠ .running ∨ s.ldu.run.lines < s.ldu.run.n →
      exec .measureComplete s = .next { s with out := [] }) ∧
    (s.ldu.run.state = .running → s.ldu.run.n ≤ s.ldu.run.lines →
      ∃ results : Vector (Option (BitVec 12)) 16,
        (∀ k : Fin 16, s.ldu.run.acc[k].count = 0 → results[k] = none) ∧
        (∀ (k : Fin 16) (m : Nat), 0 < s.ldu.run.acc[k].count →
          m * s.ldu.run.acc[k].count ≤ s.ldu.run.acc[k].sum + s.ldu.run.acc[k].count / 2 →
          s.ldu.run.acc[k].sum + s.ldu.run.acc[k].count / 2 < (m + 1) * s.ldu.run.acc[k].count →
            results[k] = some (BitVec.ofNat 12 (min 4095 m))) ∧
        exec .measureComplete s = .next { s with
          ldu := { s.ldu with
            run := { s.ldu.run with
              state := .complete, results := results, applied := s.ldu.run.applied || s.ldu.run.apply }
            correction := if s.ldu.run.apply = false then s.ldu.correction
              else Vector.ofFn fun k =>
                { s.ldu.correction[k] with black := results[k].getD s.ldu.correction[k].black } }
          lma := (s.lma.raise .measureDone).placeNotice s.lma.flags
          out := [] }))

/-! ## Supplies (08) -/

/-- POWER_UP (R135), POWER_DOWN (R138), RAMP_UP_DELAY_EXPIRY (R136, R137) and RAMP_DOWN_DELAY_EXPIRY (R139), by power state.
A strobe enables its outputs, each GOOD at once where its input is high, or disables its ON ones; a lane whose supply
becomes GOOD is ALIGNING and one whose GOOD supply ends is OFF (R43, R133). A delay of 0 has the next strobe act at once,
here one such delay before one that is not 0; that it does so in a ramp-down as well is the model's reading (log 21). After
strobe 4 the RUNNING test is made. The lanes brought up are OFF before, and those that lose their supply have no request.
A delay that does not run does not expire, which is the model's choice (log 1). -/
def Obligations.PowerCommandsAndRamps : Prop :=
  (∀ (s : State) (f : CommandFields), AtRest s → f.length = 0 →
    let answer := fun (st : Status) (code : Byte) => s.lma.place (.commandAnswer f.tag st code)
    (s.bss.power = .dormant → s.bss.marks ≠ 0 →
      exec (.powerUp f) s = .next { s with lma := answer .faultPending 1, out := [] }) ∧
    (s.bss.power = .dormant → s.bss.marks = 0 → s.bss.delays[0] ≠ 0 →
      exec (.powerUp f) s = .next { s with
        bss := { s.bss with power := .rampingUp, cause := .none, nextStrobe := some 1, delay := some 0 }
        lma := ((answer .ok 1).raise .powerState).placeNotice s.lma.flags
        out := [] }) ∧
    (s.bss.power = .dormant → s.bss.marks = 0 → s.bss.delays[0] = 0 → s.bss.delays[1] ≠ 0 →
      lanesAreOff (s.bss.brings [1]) s →
        exec (.powerUp f) s = .next { s with
          bss := { s.bss with power := .rampingUp, cause := .none, nextStrobe := some 2, delay := some 1
                              outputs := s.bss.switchedOn [1] }
          slr := s.slr.change (s.bss.brings [1]) Lane.switchedOn
          lma := (((answer .ok 1).raise .powerState).raiseLanes (s.bss.brings [1])).placeNotice s.lma.flags
          out := [] }) ∧
    (s.bss.power = .running → exec (.powerUp f) s = .next { s with lma := answer .ok 1, out := [] }) ∧
    (s.bss.power = .rampingUp ∨ s.bss.power = .rampingDown →
      exec (.powerUp f) s = .next { s with lma := answer .busy 1, out := [] }) ∧
    (s.bss.power = .dormant ∨ s.bss.power = .rampingDown →
      exec (.powerDown f) s = .next { s with lma := answer .ok 2, out := [] }) ∧
    (∀ (ks : List Nat) (k d : Fin 4),
      ks = [4] ∧ s.bss.delays[3] ≠ 0 ∧ k = 3 ∧ d = 3 ∨
        ks = [4, 3] ∧ s.bss.delays[3] = 0 ∧ s.bss.delays[2] ≠ 0 ∧ k = 2 ∧ d = 2 →
      s.bss.power = .running ∨ s.bss.power = .rampingUp → lanesAreQuiet (s.bss.takes ks) s →
        exec (.powerDown f) s = .next { s with
          bss := { s.bss with power := .rampingDown, cause := .command, nextStrobe := some k.val, delay := some d
                              outputs := s.bss.switchedOff ks }
          slr := s.slr.change (s.bss.takes ks) Lane.switchedOff
          lma := (((answer .ok 2).raise .powerState).raiseLanes (s.bss.takes ks)).placeNotice s.lma.flags
          out := ks.flatMap fun k => s.slr.cutOffs (s.bss.takes [k]) })) ∧
  (∀ s : State, (∀ i : Fin 4, s.bcr[i].headDecided = false) →
    (s.bss.power ≠ .rampingUp ∨ s.bss.delay = none →
      exec .rampUpDelayExpiry s = .next { s with out := [] }) ∧
    (∀ (k d : Fin 4), s.bss.power = .rampingUp → s.bss.delay = some d → 1 ≤ k.val → s.bss.nextStrobe = some k.val →
      (s.bss.delays[k] ≠ 0 → lanesAreOff (s.bss.brings [k.val]) s →
        exec .rampUpDelayExpiry s = .next { s with
          bss := { s.bss with outputs := s.bss.switchedOn [k.val], nextStrobe := some (k.val + 1), delay := some k }
          slr := s.slr.change (s.bss.brings [k.val]) Lane.switchedOn
          lma := (s.lma.raiseLanes (s.bss.brings [k.val])).placeNotice s.lma.flags
          out := [] }) ∧
      (∀ m : Fin 4, m.val = k.val + 1 → s.bss.delays[k] = 0 → s.bss.delays[m] ≠ 0 →
        lanesAreOff (s.bss.brings [k.val, k.val + 1]) s →
          exec .rampUpDelayExpiry s = .next { s with
            bss := { s.bss with
              outputs := s.bss.switchedOn [k.val, k.val + 1], nextStrobe := some (k.val + 2), delay := some m }
            slr := s.slr.change (s.bss.brings [k.val, k.val + 1]) Lane.switchedOn
            lma := (s.lma.raiseLanes (s.bss.brings [k.val, k.val + 1])).placeNotice s.lma.flags
            out := [] })) ∧
    (∀ (ks : List Nat) (d : Fin 4), s.bss.power = .rampingUp → s.bss.delay = some d →
      ks = [4] ∧ s.bss.nextStrobe = some 4 ∨ ks = [3, 4] ∧ s.bss.nextStrobe = some 3 ∧ s.bss.delays[3] = 0 →
      lanesAreOff (s.bss.brings ks) s →
        let ramped : Bss := { s.bss with outputs := s.bss.switchedOn ks, nextStrobe := none, delay := none }
        ((∀ n : Fin 6, s.bss.strobes[n] ≠ 0 →
            ramped.outputs[n].enable = true ∧ ramped.outputs[n].good = true) →
          exec .rampUpDelayExpiry s = .next { s with
            bss := { ramped with power := .running }
            slr := s.slr.change (s.bss.brings ks) Lane.switchedOn
            lma := ((s.lma.raiseLanes (s.bss.brings ks)).raise .powerState).placeNotice s.lma.flags
            out := [] }) ∧
        ((∃ n : Fin 6, s.bss.strobes[n] ≠ 0 ∧ ramped.outputs[n].good = false) →
          exec .rampUpDelayExpiry s = .next { s with
            bss := ramped
            slr := s.slr.change (s.bss.brings ks) Lane.switchedOn
            lma := (s.lma.raiseLanes (s.bss.brings ks)).placeNotice s.lma.flags
            out := [] })) ∧
    (s.bss.power ≠ .rampingDown ∨ s.bss.delay = none →
      exec .rampDownDelayExpiry s = .next { s with out := [] }) ∧
    (∀ d : Fin 4, s.bss.power = .rampingDown → s.bss.delay = some d → s.bss.nextStrobe = none →
      exec .rampDownDelayExpiry s = .next { s with
        bss := { s.bss with power := .dormant, delay := none }
        lma := (s.lma.raise .powerState).placeNotice s.lma.flags
        out := [] }) ∧
    (∀ (k d : Fin 4), s.bss.power = .rampingDown → s.bss.delay = some d → s.bss.nextStrobe = some (k.val + 1) →
      (s.bss.delays[k] ≠ 0 → lanesAreQuiet (s.bss.takes [k.val + 1]) s →
        exec .rampDownDelayExpiry s = .next { s with
          bss := { s.bss with
            outputs := s.bss.switchedOff [k.val + 1], nextStrobe := if k.val = 0 then none else some k.val
            delay := some k }
          slr := s.slr.change (s.bss.takes [k.val + 1]) Lane.switchedOff
          lma := (s.lma.raiseLanes (s.bss.takes [k.val + 1])).placeNotice s.lma.flags
          out := s.slr.cutOffs (s.bss.takes [k.val + 1]) }) ∧
      (∀ m : Fin 4, k.val = m.val + 1 → s.bss.delays[k] = 0 → s.bss.delays[m] ≠ 0 →
        lanesAreQuiet (s.bss.takes [k.val + 1, k.val]) s →
          exec .rampDownDelayExpiry s = .next { s with
            bss := { s.bss with
              outputs := s.bss.switchedOff [k.val + 1, k.val]
              nextStrobe := if m.val = 0 then none else some m.val, delay := some m }
            slr := s.slr.change (s.bss.takes [k.val + 1, k.val]) Lane.switchedOff
            lma := (s.lma.raiseLanes (s.bss.takes [k.val + 1, k.val])).placeNotice s.lma.flags
            out := s.slr.cutOffs (s.bss.takes [k.val + 1]) ++ s.slr.cutOffs (s.bss.takes [k.val]) }) ∧
      (k.val = 0 → s.bss.delays[k] = 0 → lanesAreQuiet (s.bss.takes [1]) s →
        exec .rampDownDelayExpiry s = .next { s with
          bss := { s.bss with
            power := .dormant, outputs := s.bss.switchedOff [1], nextStrobe := none, delay := none }
          slr := s.slr.change (s.bss.takes [1]) Lane.switchedOff
          lma := ((s.lma.raiseLanes (s.bss.takes [1])).raise .powerState).placeNotice s.lma.flags
          out := s.slr.cutOffs (s.bss.takes [1]) })))

/-- The power-good inputs (R132, R133, R137) and the watch timers (R140 to R142): a rise makes an ON output GOOD and puts
its lane to ALIGNING, and in RAMPING_UP after strobe 4 the last such rise brings RUNNING; on a GOOD output it cancels the
LOSS timer; a fall of a GOOD output starts it; an expiry is a fault, which sets its mark, holds the output and, out of
RAMPING_DOWN, begins the ramp-down at strobe 4 with cause FAULT, here with DLY4 not 0. A lane that loses its supply to the
ramp-down has no request; one that loses it to a LOSS fault has none or one in flight, which is DISCARDED. A timer that
does not run does not expire, which is the model's choice (log 1). -/
def Obligations.SupplyWatchAndFaults : Prop :=
  ∀ (s : State) (n : Fin 6), (∀ i : Fin 4, s.bcr[i].headDecided = false) →
    let o := s.bss.outputs[n]
    let put := fun x : Supply => { s.bss with outputs := s.bss.outputs.set n x }
    (o.enable = false ∨ o.faultHeld = true ∨ o.good = true →
      exec (.powerGoodRise n) s = .next { s with
        bss := put { o with
          input := true
          timer := if o.enable = true ∧ o.faultHeld = false ∧ o.timer = .loss then .none else o.timer }
        out := [] }) ∧
    (o.enable = true → o.faultHeld = false → o.good = false →
      let good := put { o with input := true, good := true, timer := .none }
      let reached : Prop := s.bss.power = .rampingUp ∧ s.bss.nextStrobe = none ∧
        ∀ m : Fin 6, m ≠ n → s.bss.strobes[m] ≠ 0 →
          s.bss.outputs[m].enable = true ∧ s.bss.outputs[m].good = true
      (4 ≤ n.val →
        (¬ reached → exec (.powerGoodRise n) s = .next { s with bss := good, out := [] }) ∧
        (reached →
          exec (.powerGoodRise n) s = .next { s with
            bss := { good with power := .running }
            lma := (s.lma.raise .powerState).placeNotice s.lma.flags
            out := [] })) ∧
      (∀ i : Fin 4, n.val = i.val → s.slr.lanes[i].state = .off →
        (¬ reached →
          exec (.powerGoodRise n) s = .next { s with
            bss := good
            slr := s.slr.setLane i s.slr.lanes[i].switchedOn
            lma := (s.lma.raise .laneState).placeNotice s.lma.flags
            out := [] }) ∧
        (reached →
          exec (.powerGoodRise n) s = .next { s with
            bss := { good with power := .running }
            slr := s.slr.setLane i s.slr.lanes[i].switchedOn
            lma := ((s.lma.raise .laneState).raise .powerState).placeNotice s.lma.flags
            out := [] }))) ∧
    (exec (.powerGoodFall n) s = .next { s with
      bss := put { o with
        input := false
        timer := if o.enable = true ∧ o.faultHeld = false ∧ o.good = true then .loss else o.timer }
      out := [] }) ∧
    (o.timer ≠ .start → exec (.startTimerExpiry n) s = .next { s with out := [] }) ∧
    (o.timer ≠ .loss → exec (.lossTimerExpiry n) s = .next { s with out := [] }) ∧
    (s.bss.power ≠ .dormant → s.bss.delays[3] ≠ 0 →
      let started : Bss :=
        { put { o with timer := .none, faultHeld := true } with marks := s.bss.marks ||| (1#12 <<< (2 * n.val)) }
      let lost : Bss :=
        { put { o with good := false, timer := .none, faultHeld := true } with
          marks := s.bss.marks ||| (1#12 <<< (2 * n.val + 1)) }
      let down := fun b : Bss =>
        if b.power = .rampingDown then b
        else { b with
          power := .rampingDown, cause := .fault, nextStrobe := some 3, delay := some 3, outputs := b.switchedOff [4] }
      let takes := fun (b : Bss) (i : Fin 4) => b.power != .rampingDown && b.takes [4] i
      let report := fun l : Lma =>
        let l := l.raise .supplyFault
        if s.bss.power = .rampingDown then l else l.raise .powerState
      (o.timer = .start → lanesAreQuiet (takes started) s →
        exec (.startTimerExpiry n) s = .next { s with
          bss := down started
          slr := s.slr.change (takes started) Lane.switchedOff
          lma := ((report s.lma).raiseLanes (takes started)).placeNotice s.lma.flags
          out := s.slr.cutOffs (takes started) }) ∧
      (o.timer = .loss → lanesAreQuiet (takes lost) s →
        (4 ≤ n.val →
          exec (.lossTimerExpiry n) s = .next { s with
            bss := down lost
            slr := s.slr.change (takes lost) Lane.switchedOff
            lma := ((report s.lma).raiseLanes (takes lost)).placeNotice s.lma.flags
            out := s.slr.cutOffs (takes lost) }) ∧
        (∀ i : Fin 4, n.val = i.val → s.slr.lanes[i].state ≠ .off →
          let receivers := (s.slr.setLane i s.slr.lanes[i].switchedOff).change (takes lost) Lane.switchedOff
          let reported := ((report s.lma).raise .laneState).placeNotice s.lma.flags
          let cut := (if s.slr.lanes[i].state = .up then [.cutOff i] else []) ++ s.slr.cutOffs (takes lost)
          (s.bcr[i].queue = [] → s.bcr[i].timer = false →
            exec (.lossTimerExpiry n) s = .next { s with
              bss := down lost, slr := receivers, lma := reported, out := cut }) ∧
          (∀ r : Request, s.slr.lanes[i].state = .up →
            s.bcr[i] = { queue := [r], timer := true, held := none } → r.status = .inFlight →
            s.lma.egress.length < 7 →
              exec (.lossTimerExpiry n) s = .next { s with
                bss := down lost
                slr := receivers
                bcr := s.bcr.set i { queue := [], timer := false, held := none }
                lma := reported.place (.relayResult
                  { tag := r.tag, lane := i, outcome := .discarded, retries := r.retries, payload := [] })
                out := cut }))))

/-! ## The agent (10, 11) and the accessory channel (09) -/

/-- WRITE messages, of one field or of several (R15, R60, R63, R75, R91, R134, R143, R156, R165, R172, R173, R180), not lost at
arrival for their Length (R158), judged by the tests of R165 in their order and answered with the first that fails: the table, its access, the range, the Length, the
presence byte and range of every field written, and BUSY for the shadow tables under a commit and the Power Sequence out of
DORMANT. An accepted WRITE stores every field it carries and no other, table by table: a Tile Map place byte by byte, with
its last byte ignored, which is the model's choice (log 17); the Programmed Pack Depth and the slot entries; Black, Gain and
Pedestal; the five fields of each lane and the three seam fields; strobes and delays; masks; the Port Rate. A flag or a mark
written with 1 is cleared, SUPPLY_FAULT not while a mark is set, and BOARD_STATUS with the status-event marks. Values given
for read-only fields are ignored. -/
def Obligations.TableWritesOfOneField : Prop :=
  ∀ (s : State) (f : WriteFields), AtRest s → f.length.toNat ≤ 240 →
    let n := f.index.toNat
    let c := f.count.toNat
    let row := fun t : Byte =>
      if t = 1 then Instr.profileCapWrite f else if t = 2 then .timingSettingsWrite f
      else if t = 12 then .alertFlagsWrite f else if t = 14 then .supplyFaultStatusWrite f else .tableWrite t f
    let answer := fun (st : Status) (t : Byte) => s.lma.place (.writeAnswer f.tag st t f.index f.count)
    let refused := fun (st : Status) (t : Byte) => exec (row t) s = .next { s with lma := answer st t, out := [] }
    let inside := fun i : Nat => n ≤ i ∧ i < n + c
    let x := fun i : Nat => (bodyField f.body (i - n)).toNat
    let value := fun i : Nat => x i % 2 ^ 56
    let byte := fun i j : Nat => x i / 2 ^ (8 * (7 - j)) % 256
    let get := fun (i old : Nat) => if inside i then value i else old
    let word := fun (i : Nat) (old : LaneBits) => if inside i then BitVec.ofNat 16 (value i) else old
    let twelve := fun (i : Nat) (old : BitVec 12) => if inside i then BitVec.ofNat 12 (value i) else old
    let good := fun (t : Byte) (i : Nat) => x i / 2 ^ 56 = 1 ∧
      if t = 3 then
        if i = 0 then value i ≤ 16
        else byte i 1 ≤ 3 ∧ byte i 2 ≤ 3 ∧ 1 ≤ 256 * byte i 3 + byte i 4 ∧ 256 * byte i 3 + byte i 4 ≤ 4096 ∧
          byte i 5 ≤ 15 ∧ byte i 6 ≤ 1
      else if t = 5 then if i = 0 then value i ∈ [10, 12, 14] else value i ≤ 3
      else if t = 7 then value i ≤ if i % 3 = 1 then 65535 else 4095
      else if t = 8 then
        if i < 20 then
          if i % 5 = 0 then value i ∈ [1, 2, 4, 6]
          else value i ≤ if i % 5 = 1 then 3 else if i % 5 = 2 then 1 else 65535
        else if i = 22 then value i ∈ [1, 2, 4, 6] else value i ≤ if i = 20 then 4095 else 255
      else if t = 10 then value i ≤ if i < 6 then 4 else 15
      else if t = 19 then value i ∈ [9600, 19200, 38400, 57600, 115200]
      else value i ≤ 1
    (∀ t : Byte, 20 ≤ t.toNat → refused .badTable t) ∧
    (∀ t : Byte, t.toNat ∈ [0, 4, 6, 9, 11, 15, 16, 17, 18] → refused .readOnly t) ∧
    (∀ (t : Byte) (size : Nat),
      (t.toNat, size) ∈ [(1, 5), (2, 5), (3, 19), (5, 64), (7, 48), (8, 23), (10, 10), (12, 21), (13, 21), (14, 12),
        (19, 6)] →
      (c = 0 ∨ 30 < c ∨ size < n + c → refused .badIndex t) ∧
      (1 ≤ c → c ≤ 30 → n + c ≤ size →
        (f.length.toNat ≠ 8 * c → refused .badValue t) ∧
        (f.length.toNat = 8 * c → t ≠ 1 → t ≠ 2 →
          let written := fun i : Nat => inside i ∧ i < if t = 3 then 17 else if t = 19 then 1 else 64
          let other := s.las.active.other
          let map := s.las.map other
          let sched := s.tle.sched s.tle.active.other
          let stored := fun u : State => exec (row t) s = .next { u with lma := answer .ok t, out := [] }
          ((∃ i < 64, written i ∧ ¬ good t i) → refused .badValue t) ∧
          ((∀ i < 64, written i → good t i) →
            (t = 3 ∨ t = 5 → s.las.commit ≠ .none → refused .busy t) ∧
            (t = 10 → s.bss.power ≠ .dormant → refused .busy t) ∧
            (t = 3 → s.las.commit = .none →
              stored { s with
                las := s.las.setMap other
                  { count := get 0 map.count
                    places := Vector.ofFn fun k : Fin 16 =>
                      if inside (k.val + 1) then
                        { lane := Fin.ofNat 4 (byte (k.val + 1) 1), segment := Fin.ofNat 4 (byte (k.val + 1) 2)
                          width := 256 * byte (k.val + 1) 3 + byte (k.val + 1) 4
                          correction := Fin.ofNat 16 (byte (k.val + 1) 5), seam := byte (k.val + 1) 6 = 1 }
                      else map.places[k] } }) ∧
            (t = 5 → s.las.commit = .none →
              stored { s with
                tle := s.tle.setSched s.tle.active.other
                  { depth :=
                      if inside 0 then if value 0 = 10 then .d10 else if value 0 = 12 then .d12 else .d14
                      else sched.depth
                    entries := Vector.ofFn fun k : Fin 63 =>
                      if inside (k.val + 1) then
                        if value (k.val + 1) = 0 then .video else if value (k.val + 1) = 1 then .mgmt
                        else if value (k.val + 1) = 2 then .aux else .fill
                      else sched.entries[k] } }) ∧
            (t = 7 →
              stored { s with ldu := { s.ldu with correction := Vector.ofFn fun k : Fin 16 =>
                { black := twelve (3 * k.val) s.ldu.correction[k].black
                  gain := word (3 * k.val + 1) s.ldu.correction[k].gain
                  pedestal := twelve (3 * k.val + 2) s.ldu.correction[k].pedestal } } }) ∧
            (t = 8 →
              stored { s with slr :=
                { lanes := Vector.ofFn fun i : Fin 4 =>
                    { s.slr.lanes[i] with
                      errThreshold := get (5 * i.val) s.slr.lanes[i].errThreshold
                      retryLimit := get (5 * i.val + 1) s.slr.lanes[i].retryLimit
                      watchMode :=
                        if inside (5 * i.val + 2) then if value (5 * i.val + 2) = 0 then .event else .matching
                        else s.slr.lanes[i].watchMode
                      watchMask := word (5 * i.val + 3) s.slr.lanes[i].watchMask
                      watchCompare := word (5 * i.val + 4) s.slr.lanes[i].watchCompare }
                  seam :=
                    { threshold := get 20 s.slr.seam.threshold, hysteresis := get 21 s.slr.seam.hysteresis
                      queue := get 22 s.slr.seam.queue } } }) ∧
            (t = 10 → s.bss.power = .dormant →
              stored { s with bss := { s.bss with
                strobes := Vector.ofFn fun k : Fin 6 => get k.val s.bss.strobes[k]
                delays := Vector.ofFn fun k : Fin 4 => get (k.val + 6) s.bss.delays[k] } }) ∧
            (t = 12 →
              let clears := fun g : Flag => inside g.index ∧ value g.index = 1 ∧ s.lma.flag g = true ∧
                (g = .supplyFault → s.bss.marks = 0)
              ∃ u, exec (row t) s = .next u ∧
                u = { s with
                  slr := if clears .boardStatus then
                      { s.slr with lanes := Vector.ofFn fun i => { s.slr.lanes[i] with eventMark := false } }
                    else s.slr
                  lma := { answer .ok t with flags := u.lma.flags }
                  out := [] } ∧
                ∀ g : Flag, u.lma.flag g = true ↔ s.lma.flag g = true ∧ ¬ clears g) ∧
            (t = 13 →
              ∃ u, exec (row t) s = .next u ∧
                u = { s with lma := { answer .ok t with masks := u.lma.masks }, out := [] } ∧
                ∀ g : Flag, u.lma.masks.getLsbD g.index =
                  if inside g.index then decide (value g.index = 1) else s.lma.masks.getLsbD g.index) ∧
            (t = 14 →
              ∃ u, exec (row t) s = .next u ∧
                u = { s with bss := { s.bss with marks := u.bss.marks }, lma := answer .ok t, out := [] } ∧
                ∀ k < 12, u.bss.marks.getLsbD k = true ↔ s.bss.marks.getLsbD k = true ∧ ¬(inside k ∧ value k = 1)) ∧
            (t = 19 →
              stored { s with
                acu := { s.acu with
                  portRate :=
                    if inside 0 then
                      if value 0 = 9600 then .r9600 else if value 0 = 19200 then .r19200
                      else if value 0 = 38400 then .r38400 else if value 0 = 57600 then .r57600 else .r115200
                    else s.acu.portRate } })))))

/-- The accessory channel (R146 to R150, R152 to R154): bytes at the port and from the cable by escape state and value,
the end of a transmission, the call sample. Without a transmission PORT_BYTE_SENT changes nothing, which is the model's
choice (log 1). -/
def Obligations.AccessoryBytesAndCalls : Prop :=
  (∀ (s : State) (b : Byte),
    exec (.portByteReceived b true) s = .next { s with out := [] } ∧
    (s.acu.upEscape = false →
      (b = 0x1F → exec (.portByteReceived b false) s = .next { s with
        acu := { s.acu with upEscape := true }, out := [] }) ∧
      (b = 0x1C → exec (.portByteReceived b false) s = .next { s with
        acu := { s.acu with owner := .localSide }, out := [] }) ∧
      (b = 0x1E → exec (.portByteReceived b false) s = .next { s with
        acu := { s.acu with callCount := s.acu.callCount + 1 }
        lma := (s.lma.raise .call).placeNotice s.lma.flags
        out := [] }) ∧
      (b = 0x1D → s.acu.owner = .remote ∨ s.acu.down = [] ∨ s.acu.sending.isSome = true →
        exec (.portByteReceived b false) s = .next { s with acu := { s.acu with owner := .remote }, out := [] }) ∧
      (b = 0x1D → s.acu.owner = .localSide → s.acu.sending = none → ∀ x rest, s.acu.down = x :: rest →
        exec (.portByteReceived b false) s = .next { s with
          acu := { s.acu with owner := .remote, down := rest, sending := some (x, s.acu.portRate) }
          out := [.portByte x s.acu.portRate] })) ∧
    (s.acu.upEscape = true ∨ b ≠ 0x1C ∧ b ≠ 0x1D ∧ b ≠ 0x1E ∧ b ≠ 0x1F →
      (s.acu.up.length < 256 → exec (.portByteReceived b false) s = .next { s with
        acu := { s.acu with up := s.acu.up ++ [b], upEscape := false }, out := [] }) ∧
      (256 ≤ s.acu.up.length → exec (.portByteReceived b false) s = .next { s with
        acu := { s.acu with upEscape := false }
        lma := ((s.lma.addCount .auxOverrun 1).raise .auxOverrun).placeNotice s.lma.flags
        out := [] })) ∧
    (s.acu.downEscape = false → b = 0x1F → takeAuxByte s b = { s with acu := { s.acu with downEscape := true } }) ∧
    (s.acu.downEscape = false → b = 0x1C ∨ b = 0x1E → takeAuxByte s b = s) ∧
    (s.acu.downEscape = false → b = 0x1D → s.acu.owner = .remote ∨ s.acu.down = [] ∨ s.acu.sending.isSome = true →
      takeAuxByte s b = { s with acu := { s.acu with owner := .remote } }) ∧
    (s.acu.downEscape = false → b = 0x1D → s.acu.owner = .localSide → s.acu.sending = none →
      ∀ x rest, s.acu.down = x :: rest →
        takeAuxByte s b = { s with
          acu := { s.acu with owner := .remote, down := rest, sending := some (x, s.acu.portRate) }
          out := s.out ++ [.portByte x s.acu.portRate] }) ∧
    (s.acu.downEscape = true ∨ b ≠ 0x1C ∧ b ≠ 0x1D ∧ b ≠ 0x1E ∧ b ≠ 0x1F →
      (256 ≤ s.acu.down.length → takeAuxByte s b = { s with
        acu := { s.acu with downEscape := false }
        lma := (s.lma.addCount .auxOverrun 1).raise .auxOverrun }) ∧
      (s.acu.down.length < 256 → s.acu.owner = .localSide ∨ s.acu.sending.isSome = true →
        takeAuxByte s b = { s with acu := { s.acu with down := s.acu.down ++ [b], downEscape := false } }) ∧
      (s.acu.down = [] → s.acu.owner = .remote → s.acu.sending = none →
        takeAuxByte s b = { s with
          acu := { s.acu with sending := some (b, s.acu.portRate), downEscape := false }
          out := s.out ++ [.portByte b s.acu.portRate] }))) ∧
  (∀ s : State,
    (s.acu.sending = none → exec .portByteSent s = .next { s with out := [] }) ∧
    (s.acu.sending.isSome = true → s.acu.owner = .localSide ∨ s.acu.down = [] →
      exec .portByteSent s = .next { s with acu := { s.acu with sending := none }, out := [] }) ∧
    (s.acu.sending.isSome = true → s.acu.owner = .remote → ∀ x rest, s.acu.down = x :: rest →
      exec .portByteSent s = .next { s with
        acu := { s.acu with down := rest, sending := some (x, s.acu.portRate) }
        out := [.portByte x s.acu.portRate] }) ∧
    exec (.callSample false) s = .next { s with
      acu := { s.acu with armed := true, prevSample := some .released }, out := [] } ∧
    (s.acu.armed = true → s.acu.prevSample = some .pressed →
      exec (.callSample true) s = .next { s with
        acu := { s.acu with armed := false, callCount := s.acu.callCount + 1 }
        lma := (s.lma.raise .call).placeNotice s.lma.flags
        out := [] }) ∧
    (s.acu.armed = false ∨ s.acu.prevSample ≠ some .pressed →
      exec (.callSample true) s = .next { s with
        acu := { s.acu with prevSample := some .pressed }, out := [] }))

/-- CLEAR_COUNTERS (R168), DATAPATH_RESET (R169) with no commit DRAINING and no request queued, with a commit DRAINING (R79,
R82, R87) and with two requests of a lane (R126, R127), the READ of a management table (R2, R15, R20, R41, R60, R61, R63,
R75, R90, R110, R117, R134, R143, R144, R156, R164, R166, R171, R173, R175, R180), judged by its tests in their order and
answered with the values in index order, and the messages the agent does not know (R160, R167) or loses at arrival (R158,
R159). Every index of every table is written out; an enumeration whose owning rule has no table that lists its values, as
Link State and Degrade Indication, is coded by the order in which its chapter names them, which is the model's reading
(log 18). The READ comes in a superframe whose marker FREE ignores. -/
def Obligations.AgentCommandsAndUnknownMessages : Prop :=
  (∀ (s : State) (f : CommandFields), AtRest s → f.length = 0 →
    exec (.clearCounters f) s = .next { s with
      lma := { s.lma.place (.commandAnswer f.tag .ok 8) with counters := Vector.replicate 19 0 }, out := [] } ∧
    (let cleared : State := { s with
       tle := { s.tle with buffer := [] }
       slr := { s.slr with lanes := Vector.ofFn fun i =>
         { s.slr.lanes[i] with errCount := 0, candidate := none } }
       las := { s.las with
         records := [], currentBank := s.las.active, triggeredBank := s.las.active, commit := .none
         target := if s.las.commit = .pending then none else s.las.target }
       ldu := { s.ldu with
         held := Vector.ofFn fun k => { s.ldu.held[k] with valid := false }
         seams := seamsFrom 1 (s.las.map s.las.active).entries
         run := if s.ldu.run.state = .running then
             { s.ldu.run with state := .aborted, cause := .datapathReset }
           else s.ldu.run }
       acu := { s.acu with down := [], up := [], downEscape := false, upEscape := false }
       lma := (if s.ldu.run.state = .running then (s.lma.place (.commandAnswer f.tag .ok 9)).raise .measureDone
               else s.lma.place (.commandAnswer f.tag .ok 9)).placeNotice s.lma.flags
       out := [] }
     s.las.commit ≠ .draining →
      ((∀ i : Fin 4, s.bcr[i].queue = [] ∧ s.bcr[i].timer = false) → exec (.datapathReset f) s = .next cleared) ∧
      (∀ (i : Fin 4) (r q : Request), s.bcr[i] = { queue := [r, q], timer := true, held := none } →
        r.status = .inFlight → q.status = .waiting → s.lma.egress.length < 5 →
        (∀ j : Fin 4, j ≠ i → s.bcr[j].queue = [] ∧ s.bcr[j].timer = false) →
          let result := fun x : Request => UpMessage.relayResult
            { tag := x.tag, lane := i, outcome := .discarded, retries := x.retries, payload := [] }
          exec (.datapathReset f) s = .next { cleared with
            bcr := s.bcr.set i { queue := [], timer := false, held := none }
            lma := (cleared.lma.place (result r)).place (result q) })) ∧
    (∀ bank : Bank, CommitInv s → s.las.commit = .draining → s.las.target = some bank →
      (∀ i : Fin 4, s.bcr[i].queue = [] ∧ s.bcr[i].timer = false) →
        let old := s.tle.degrade
        let new := ladder (s.tle.sched bank) (totalWidth (s.las.map bank).entries) s.tle.profile.budget
        exec (.datapathReset f) s = .next { s with
          tle := { s.tle with
            schedA := s.tle.sched bank, schedB := s.tle.sched bank, active := bank, buffer := []
            degrade := if s.las.flipMark then old else new }
          slr := { s.slr with lanes := Vector.ofFn fun i =>
            { s.slr.lanes[i] with errCount := 0, candidate := none } }
          las := { s.las with
            mapA := s.las.map bank, mapB := s.las.map bank, active := bank, records := [], currentBank := bank
            triggeredBank := bank, commit := .none, target := none, switchFrame := none, flipMark := false }
          ldu := { s.ldu with
            held := Vector.ofFn fun k => { s.ldu.held[k] with valid := false }
            seams := seamsFrom 1 (s.las.map bank).entries
            run := if s.ldu.run.state = .running then
                { s.ldu.run with state := .aborted, cause := .datapathReset }
              else s.ldu.run }
          acu := { s.acu with down := [], up := [], downEscape := false, upEscape := false }
          lma :=
            (let l := s.lma.place (.commandAnswer f.tag .ok 9)
             let l := if s.ldu.run.state = .running then l.raise .measureDone else l
             let l := if s.las.flipMark = false ∧ new.indication ≠ .none ∧
                 (old.indication = .none ∨ new.depth.bits < old.depth.bits ∨
                   new.truncating = true ∧ old.truncating = false) then l.raise .degraded
               else l
             (l.raise .commitDone).placeNotice s.lma.flags)
          out := [] })) ∧
  (∀ (s : State) (bytes : List Byte) (time : Nat) (order : List Part) (d : Downstream) (m : Message),
    AtRest s → parseSuperframe bytes = some d → d.echo = none → d.cells = [m] → d.aux = [] → s.tle.link = .online →
    s.rtu.timing = .free → s.rtu.settings.total ≤ d.line → m.kind = 1 → m.length.toNat ≤ 240 →
      let answered := fun (st : Status) (values : List Field) => { s with
        tle := { s.tle with badRun := 0 }
        lma := s.lma.place (.readAnswer m.tag st m.table m.index m.count values)
        out := [] }
      let sizes : List Nat := [7, 5, 5, 19, 19, 64, 64, 48, 23, 32, 10, 16, 21, 21, 12, 19, 54, 91, 13, 6]
      (20 ≤ m.table.toNat →
        exec (.superframeArrival bytes time (.marker :: order)) s = .next (answered .badTable [])) ∧
      (∀ n : Nat, sizes[m.table.toNat]? = some n →
        (m.count = 0 ∨ 30 < m.count.toNat ∨ n < m.index.toNat + m.count.toNat →
          exec (.superframeArrival bytes time (.marker :: order)) s = .next (answered .badIndex [])) ∧
        (m.count ≠ 0 → m.count.toNat ≤ 30 → m.index.toNat + m.count.toNat ≤ n →
          (m.length ≠ 0 →
            exec (.superframeArrival bytes time (.marker :: order)) s = .next (answered .badValue [])) ∧
          (m.length = 0 →
            exec (.superframeArrival bytes time (.marker :: order)) s = .next (answered .ok
              ((List.range m.count.toNat).map fun k => readField m.table.toNat (m.index.toNat + k) s)))))) ∧
  (∀ (s : State) (i : Nat),
    let bit := fun b : Bool => fieldOfNat (if b then 1 else 0)
    (i < 7 → readField 0 i s = fieldOfNat ([0x0B7, 0x4106, 2, 1, 4, 16, 8192].getD i 0)) ∧
    (i < 5 →
      readField 1 i s = fieldOfNat ([s.tle.cap.number,
        (match s.tle.link with | .down => 0 | .training => 1 | .online => 2), s.tle.profile.number,
        s.tle.degrade.depth.bits,
        (match s.tle.degrade.indication with | .none => 0 | .reduced => 1 | .truncating => 2)].getD i 0) ∧
      readField 2 i s = fieldOfNat ([s.rtu.settings.total, s.rtu.settings.active, s.rtu.settings.latency,
        s.rtu.settings.lead, s.rtu.settings.offset].getD i 0)) ∧
    (∀ (table : Nat) (bank : Bank), (table, bank) ∈ [(3, s.las.active.other), (4, s.las.active)] →
      let m := s.las.map bank
      readField table 0 s = fieldOfNat m.count ∧
      (∀ k : Fin 16, readField table (k.val + 1) s = fieldOfPlace m.places[k]) ∧
      readField table 17 s = fieldOfNat (match s.las.commit with | .none => 0 | .pending => 1 | .draining => 2) ∧
      readField table 18 s = fieldOfNat (match bank with | .a => 0 | .b => 1)) ∧
    (∀ (table : Nat) (bank : Bank), (table, bank) ∈ [(5, s.tle.active.other), (6, s.tle.active)] →
      let b := s.tle.sched bank
      readField table 0 s = fieldOfNat b.depth.bits ∧
      ∀ k : Fin 63, readField table (k.val + 1) s = fieldOfNat
        (match b.entries[k] with | .video => 0 | .mgmt => 1 | .aux => 2 | .fill => 3)) ∧
    (∀ k : Fin 16,
      readField 7 (3 * k.val) s = fieldOfNat s.ldu.correction[k].black.toNat ∧
      readField 7 (3 * k.val + 1) s = fieldOfNat s.ldu.correction[k].gain.toNat ∧
      readField 7 (3 * k.val + 2) s = fieldOfNat s.ldu.correction[k].pedestal.toNat) ∧
    (∀ (n : Fin 4) (j : Nat),
      let l := s.slr.lanes[n]
      (j < 5 → readField 8 (5 * n.val + j) s = fieldOfNat ([l.errThreshold, l.retryLimit,
        (match l.watchMode with | .event => 0 | .matching => 1), l.watchMask.toNat, l.watchCompare.toNat].getD j 0)) ∧
      (j < 8 → readField 9 (8 * n.val + j) s =
        [fieldOfNat (match l.state with | .off => 0 | .aligning => 1 | .up => 2 | .failed => 3), bit l.supplyGood,
          fieldOfNat l.errCount, fieldOfNat l.idleRun, fieldOfOption (l.lastWord.map BitVec.toNat),
          fieldOfNat l.latched.toNat, bit l.eventMark, bit l.stale].getD j fieldAbsent)) ∧
    (∀ j < 3, readField 8 (20 + j) s =
      fieldOfNat ([s.slr.seam.threshold, s.slr.seam.hysteresis, s.slr.seam.queue].getD j 0)) ∧
    (i < 10 → readField 10 i s = fieldOfNat ((s.bss.strobes.toList ++ s.bss.delays.toList).getD i 0)) ∧
    (i < 4 → readField 11 i s =
      [fieldOfNat (match s.bss.power with | .dormant => 0 | .rampingUp => 1 | .running => 2 | .rampingDown => 3),
        fieldOfOption s.bss.nextStrobe, fieldOfOption (s.bss.delay.map Fin.val),
        fieldOfNat (match s.bss.cause with | .none => 0 | .command => 1 | .fault => 2)].getD i fieldAbsent) ∧
    (∀ n : Fin 6, readField 11 (4 + 2 * n.val) s = bit s.bss.outputs[n].enable ∧
      readField 11 (5 + 2 * n.val) s = bit s.bss.outputs[n].good) ∧
    (i < 21 → readField 12 i s = bit (s.lma.flags.getLsbD i) ∧ readField 13 i s = bit (s.lma.masks.getLsbD i)) ∧
    (i < 12 → readField 14 i s = bit (s.bss.marks.getLsbD i)) ∧
    (∀ c : Counter, readField 15 c.index.val s = fieldOfNat (s.lma.counter c).toNat) ∧
    (i < 6 → readField 16 i s =
      [fieldOfNat (match s.ldu.run.state with | .idle => 0 | .running => 1 | .complete => 2 | .aborted => 3),
        fieldOfNat (match s.ldu.run.cause with
          | .none => 0 | .measureAbort => 1 | .datapathReset => 2 | .flush => 3 | .mapChanged => 4),
        fieldOfNat s.ldu.run.n, bit s.ldu.run.apply, fieldOfNat s.ldu.run.lines,
        bit s.ldu.run.applied].getD i fieldAbsent) ∧
    (∀ k : Fin 16,
      readField 16 (6 + 3 * k.val) s = fieldOfNat s.ldu.run.acc[k].count ∧
      readField 16 (7 + 3 * k.val) s = fieldOfNat s.ldu.run.acc[k].sum ∧
      readField 16 (8 + 3 * k.val) s = fieldOfOption (s.ldu.run.results[k].map BitVec.toNat)) ∧
    readField 17 0 s = fieldOfNat s.ldu.seams.length ∧
    (∀ k j : Nat, 1 ≤ k → k ≤ 15 → j < 6 →
      (s.ldu.seams.length < k → readField 17 (6 * k - 5 + j) s = fieldAbsent) ∧
      (∀ r : SeamRecord, s.ldu.seams[k - 1]? = some r →
        readField 17 (6 * k - 5 + j) s =
          [fieldOfNat r.left, bit r.isOpen, fieldOfNat r.run,
            (match r.lastD with | none => fieldAbsent | some x => fieldOfInt x), fieldOfInt r.sumDiff,
            fieldOfNat r.lines].getD j fieldAbsent)) ∧
    (i < 13 → readField 18 i s =
      [fieldOfNat (match s.rtu.timing with | .free => 0 | .locking => 1 | .locked => 2 | .holdover => 3),
        fieldOfOption s.rtu.lp, fieldOfOption s.rtu.dapp, fieldOfOption s.rtu.lastDelay, fieldOfOption s.rtu.advance,
        fieldOfOption s.rtu.wait,
        (match s.rtu.head with | none => fieldAbsent | some l => fieldOfPair l.frame.val l.num),
        fieldOfOption (s.rtu.triggered.map Fin.val), fieldOfNat s.rtu.missRun, fieldOfNat s.rtu.lockCount,
        fieldOfNat s.rtu.lastProbeId.toNat,
        (match s.rtu.probe with | none => fieldAbsent | some p => fieldOfPair p.id.toNat p.age),
        fieldOfNat s.rtu.abandonRun].getD i fieldAbsent) ∧
    (i < 6 → readField 19 i s = fieldOfNat ([s.acu.portRate.baud,
      (match s.acu.owner with | .remote => 0 | .localSide => 1), s.acu.down.length, s.acu.up.length,
      s.acu.callCount.val, (match s.acu.tally with | .off => 0 | .preview => 1 | .onAir => 2)].getD i 0))) ∧
  (∀ (s : State) (m : Message), AtRest s → m.length.toNat ≤ 240 → m.kind = 0 ∨ 4 < m.kind.toNat →
    exec (.unknownKind m) s = .next { s with
      lma := (s.lma.place (.commandAnswer m.tag .badKind m.kind)).addCount .mgmtBad 1, out := [] }) ∧
  (∀ (s : State) (code : Byte) (f : CommandFields), AtRest s → f.length.toNat ≤ 240 → code = 0 ∨ 11 < code.toNat →
    exec (.unknownCommandCode code f) s = .next { s with
      lma := s.lma.place (.commandAnswer f.tag .badValue code), out := [] }) ∧
  (∀ (s : State) (m : Message),
    (240 < m.length.toNat →
      exec (.unknownKind m) s = .next { s with
        lma := ((s.lma.addCount .mgmtBad 1).raise .mgmtError).placeNotice s.lma.flags, out := [] }) ∧
    (m.length.toNat ≤ 240 → 8 ≤ s.lma.ingress.length →
      exec (.unknownKind m) s = .next { s with
        lma := ((s.lma.addCount .mgmtOverflow 1).raise .mgmtError).placeNotice s.lma.flags, out := [] }))
end

