-- ==== Sys2Proof/Laws/State.lean ====
section
/-! SUPPORT. One lemma for each field of State and each update of it. -/

namespace Sys2Proof.Machine.State

variable (s : State)

/-! ### mapTle -/

@[simp] theorem mapTle_tle (f : Tle → Tle) : (s.mapTle f).tle = f s.tle := rfl
@[simp] theorem mapTle_rtu (f : Tle → Tle) : (s.mapTle f).rtu = s.rtu := rfl
@[simp] theorem mapTle_slr (f : Tle → Tle) : (s.mapTle f).slr = s.slr := rfl
@[simp] theorem mapTle_las (f : Tle → Tle) : (s.mapTle f).las = s.las := rfl
@[simp] theorem mapTle_ldu (f : Tle → Tle) : (s.mapTle f).ldu = s.ldu := rfl
@[simp] theorem mapTle_bcr (f : Tle → Tle) : (s.mapTle f).bcr = s.bcr := rfl
@[simp] theorem mapTle_bss (f : Tle → Tle) : (s.mapTle f).bss = s.bss := rfl
@[simp] theorem mapTle_acu (f : Tle → Tle) : (s.mapTle f).acu = s.acu := rfl
@[simp] theorem mapTle_lma (f : Tle → Tle) : (s.mapTle f).lma = s.lma := rfl
@[simp] theorem mapTle_out (f : Tle → Tle) : (s.mapTle f).out = s.out := rfl
@[simp] theorem mapTle_pending (f : Tle → Tle) : (s.mapTle f).pending = s.pending := rfl

/-! ### mapRtu -/

@[simp] theorem mapRtu_tle (f : Rtu → Rtu) : (s.mapRtu f).tle = s.tle := rfl
@[simp] theorem mapRtu_rtu (f : Rtu → Rtu) : (s.mapRtu f).rtu = f s.rtu := rfl
@[simp] theorem mapRtu_slr (f : Rtu → Rtu) : (s.mapRtu f).slr = s.slr := rfl
@[simp] theorem mapRtu_las (f : Rtu → Rtu) : (s.mapRtu f).las = s.las := rfl
@[simp] theorem mapRtu_ldu (f : Rtu → Rtu) : (s.mapRtu f).ldu = s.ldu := rfl
@[simp] theorem mapRtu_bcr (f : Rtu → Rtu) : (s.mapRtu f).bcr = s.bcr := rfl
@[simp] theorem mapRtu_bss (f : Rtu → Rtu) : (s.mapRtu f).bss = s.bss := rfl
@[simp] theorem mapRtu_acu (f : Rtu → Rtu) : (s.mapRtu f).acu = s.acu := rfl
@[simp] theorem mapRtu_lma (f : Rtu → Rtu) : (s.mapRtu f).lma = s.lma := rfl
@[simp] theorem mapRtu_out (f : Rtu → Rtu) : (s.mapRtu f).out = s.out := rfl
@[simp] theorem mapRtu_pending (f : Rtu → Rtu) : (s.mapRtu f).pending = s.pending := rfl

/-! ### mapSlr -/

@[simp] theorem mapSlr_tle (f : Slr → Slr) : (s.mapSlr f).tle = s.tle := rfl
@[simp] theorem mapSlr_rtu (f : Slr → Slr) : (s.mapSlr f).rtu = s.rtu := rfl
@[simp] theorem mapSlr_slr (f : Slr → Slr) : (s.mapSlr f).slr = f s.slr := rfl
@[simp] theorem mapSlr_las (f : Slr → Slr) : (s.mapSlr f).las = s.las := rfl
@[simp] theorem mapSlr_ldu (f : Slr → Slr) : (s.mapSlr f).ldu = s.ldu := rfl
@[simp] theorem mapSlr_bcr (f : Slr → Slr) : (s.mapSlr f).bcr = s.bcr := rfl
@[simp] theorem mapSlr_bss (f : Slr → Slr) : (s.mapSlr f).bss = s.bss := rfl
@[simp] theorem mapSlr_acu (f : Slr → Slr) : (s.mapSlr f).acu = s.acu := rfl
@[simp] theorem mapSlr_lma (f : Slr → Slr) : (s.mapSlr f).lma = s.lma := rfl
@[simp] theorem mapSlr_out (f : Slr → Slr) : (s.mapSlr f).out = s.out := rfl
@[simp] theorem mapSlr_pending (f : Slr → Slr) : (s.mapSlr f).pending = s.pending := rfl

/-! ### mapLas -/

@[simp] theorem mapLas_tle (f : Las → Las) : (s.mapLas f).tle = s.tle := rfl
@[simp] theorem mapLas_rtu (f : Las → Las) : (s.mapLas f).rtu = s.rtu := rfl
@[simp] theorem mapLas_slr (f : Las → Las) : (s.mapLas f).slr = s.slr := rfl
@[simp] theorem mapLas_las (f : Las → Las) : (s.mapLas f).las = f s.las := rfl
@[simp] theorem mapLas_ldu (f : Las → Las) : (s.mapLas f).ldu = s.ldu := rfl
@[simp] theorem mapLas_bcr (f : Las → Las) : (s.mapLas f).bcr = s.bcr := rfl
@[simp] theorem mapLas_bss (f : Las → Las) : (s.mapLas f).bss = s.bss := rfl
@[simp] theorem mapLas_acu (f : Las → Las) : (s.mapLas f).acu = s.acu := rfl
@[simp] theorem mapLas_lma (f : Las → Las) : (s.mapLas f).lma = s.lma := rfl
@[simp] theorem mapLas_out (f : Las → Las) : (s.mapLas f).out = s.out := rfl
@[simp] theorem mapLas_pending (f : Las → Las) : (s.mapLas f).pending = s.pending := rfl

/-! ### mapLdu -/

@[simp] theorem mapLdu_tle (f : Ldu → Ldu) : (s.mapLdu f).tle = s.tle := rfl
@[simp] theorem mapLdu_rtu (f : Ldu → Ldu) : (s.mapLdu f).rtu = s.rtu := rfl
@[simp] theorem mapLdu_slr (f : Ldu → Ldu) : (s.mapLdu f).slr = s.slr := rfl
@[simp] theorem mapLdu_las (f : Ldu → Ldu) : (s.mapLdu f).las = s.las := rfl
@[simp] theorem mapLdu_ldu (f : Ldu → Ldu) : (s.mapLdu f).ldu = f s.ldu := rfl
@[simp] theorem mapLdu_bcr (f : Ldu → Ldu) : (s.mapLdu f).bcr = s.bcr := rfl
@[simp] theorem mapLdu_bss (f : Ldu → Ldu) : (s.mapLdu f).bss = s.bss := rfl
@[simp] theorem mapLdu_acu (f : Ldu → Ldu) : (s.mapLdu f).acu = s.acu := rfl
@[simp] theorem mapLdu_lma (f : Ldu → Ldu) : (s.mapLdu f).lma = s.lma := rfl
@[simp] theorem mapLdu_out (f : Ldu → Ldu) : (s.mapLdu f).out = s.out := rfl
@[simp] theorem mapLdu_pending (f : Ldu → Ldu) : (s.mapLdu f).pending = s.pending := rfl

/-! ### mapBss -/

@[simp] theorem mapBss_tle (f : Bss → Bss) : (s.mapBss f).tle = s.tle := rfl
@[simp] theorem mapBss_rtu (f : Bss → Bss) : (s.mapBss f).rtu = s.rtu := rfl
@[simp] theorem mapBss_slr (f : Bss → Bss) : (s.mapBss f).slr = s.slr := rfl
@[simp] theorem mapBss_las (f : Bss → Bss) : (s.mapBss f).las = s.las := rfl
@[simp] theorem mapBss_ldu (f : Bss → Bss) : (s.mapBss f).ldu = s.ldu := rfl
@[simp] theorem mapBss_bcr (f : Bss → Bss) : (s.mapBss f).bcr = s.bcr := rfl
@[simp] theorem mapBss_bss (f : Bss → Bss) : (s.mapBss f).bss = f s.bss := rfl
@[simp] theorem mapBss_acu (f : Bss → Bss) : (s.mapBss f).acu = s.acu := rfl
@[simp] theorem mapBss_lma (f : Bss → Bss) : (s.mapBss f).lma = s.lma := rfl
@[simp] theorem mapBss_out (f : Bss → Bss) : (s.mapBss f).out = s.out := rfl
@[simp] theorem mapBss_pending (f : Bss → Bss) : (s.mapBss f).pending = s.pending := rfl

/-! ### mapAcu -/

@[simp] theorem mapAcu_tle (f : Acu → Acu) : (s.mapAcu f).tle = s.tle := rfl
@[simp] theorem mapAcu_rtu (f : Acu → Acu) : (s.mapAcu f).rtu = s.rtu := rfl
@[simp] theorem mapAcu_slr (f : Acu → Acu) : (s.mapAcu f).slr = s.slr := rfl
@[simp] theorem mapAcu_las (f : Acu → Acu) : (s.mapAcu f).las = s.las := rfl
@[simp] theorem mapAcu_ldu (f : Acu → Acu) : (s.mapAcu f).ldu = s.ldu := rfl
@[simp] theorem mapAcu_bcr (f : Acu → Acu) : (s.mapAcu f).bcr = s.bcr := rfl
@[simp] theorem mapAcu_bss (f : Acu → Acu) : (s.mapAcu f).bss = s.bss := rfl
@[simp] theorem mapAcu_acu (f : Acu → Acu) : (s.mapAcu f).acu = f s.acu := rfl
@[simp] theorem mapAcu_lma (f : Acu → Acu) : (s.mapAcu f).lma = s.lma := rfl
@[simp] theorem mapAcu_out (f : Acu → Acu) : (s.mapAcu f).out = s.out := rfl
@[simp] theorem mapAcu_pending (f : Acu → Acu) : (s.mapAcu f).pending = s.pending := rfl

/-! ### mapLma -/

@[simp] theorem mapLma_tle (f : Lma → Lma) : (s.mapLma f).tle = s.tle := rfl
@[simp] theorem mapLma_rtu (f : Lma → Lma) : (s.mapLma f).rtu = s.rtu := rfl
@[simp] theorem mapLma_slr (f : Lma → Lma) : (s.mapLma f).slr = s.slr := rfl
@[simp] theorem mapLma_las (f : Lma → Lma) : (s.mapLma f).las = s.las := rfl
@[simp] theorem mapLma_ldu (f : Lma → Lma) : (s.mapLma f).ldu = s.ldu := rfl
@[simp] theorem mapLma_bcr (f : Lma → Lma) : (s.mapLma f).bcr = s.bcr := rfl
@[simp] theorem mapLma_bss (f : Lma → Lma) : (s.mapLma f).bss = s.bss := rfl
@[simp] theorem mapLma_acu (f : Lma → Lma) : (s.mapLma f).acu = s.acu := rfl
@[simp] theorem mapLma_lma (f : Lma → Lma) : (s.mapLma f).lma = f s.lma := rfl
@[simp] theorem mapLma_out (f : Lma → Lma) : (s.mapLma f).out = s.out := rfl
@[simp] theorem mapLma_pending (f : Lma → Lma) : (s.mapLma f).pending = s.pending := rfl

/-! ### mapRelay, mapLane, emit -/

@[simp] theorem mapRelay_tle (i : Fin 4) (f : RelayLane → RelayLane) : (s.mapRelay i f).tle = s.tle := rfl
@[simp] theorem mapRelay_rtu (i : Fin 4) (f : RelayLane → RelayLane) : (s.mapRelay i f).rtu = s.rtu := rfl
@[simp] theorem mapRelay_slr (i : Fin 4) (f : RelayLane → RelayLane) : (s.mapRelay i f).slr = s.slr := rfl
@[simp] theorem mapRelay_las (i : Fin 4) (f : RelayLane → RelayLane) : (s.mapRelay i f).las = s.las := rfl
@[simp] theorem mapRelay_ldu (i : Fin 4) (f : RelayLane → RelayLane) : (s.mapRelay i f).ldu = s.ldu := rfl
@[simp] theorem mapRelay_bcr (i : Fin 4) (f : RelayLane → RelayLane) : (s.mapRelay i f).bcr = s.bcr.set i (f s.bcr[i]) := rfl
@[simp] theorem mapRelay_bss (i : Fin 4) (f : RelayLane → RelayLane) : (s.mapRelay i f).bss = s.bss := rfl
@[simp] theorem mapRelay_acu (i : Fin 4) (f : RelayLane → RelayLane) : (s.mapRelay i f).acu = s.acu := rfl
@[simp] theorem mapRelay_lma (i : Fin 4) (f : RelayLane → RelayLane) : (s.mapRelay i f).lma = s.lma := rfl
@[simp] theorem mapRelay_out (i : Fin 4) (f : RelayLane → RelayLane) : (s.mapRelay i f).out = s.out := rfl
@[simp] theorem mapRelay_pending (i : Fin 4) (f : RelayLane → RelayLane) : (s.mapRelay i f).pending = s.pending := rfl
@[simp] theorem mapLane_tle (i : Fin 4) (f : Lane → Lane) : (s.mapLane i f).tle = s.tle := rfl
@[simp] theorem mapLane_rtu (i : Fin 4) (f : Lane → Lane) : (s.mapLane i f).rtu = s.rtu := rfl
@[simp] theorem mapLane_lanes (i : Fin 4) (f : Lane → Lane) : (s.mapLane i f).slr.lanes = s.slr.lanes.set i (f s.slr.lanes[i]) := rfl
@[simp] theorem mapLane_seam (i : Fin 4) (f : Lane → Lane) : (s.mapLane i f).slr.seam = s.slr.seam := rfl
@[simp] theorem mapLane_las (i : Fin 4) (f : Lane → Lane) : (s.mapLane i f).las = s.las := rfl
@[simp] theorem mapLane_ldu (i : Fin 4) (f : Lane → Lane) : (s.mapLane i f).ldu = s.ldu := rfl
@[simp] theorem mapLane_bcr (i : Fin 4) (f : Lane → Lane) : (s.mapLane i f).bcr = s.bcr := rfl
@[simp] theorem mapLane_bss (i : Fin 4) (f : Lane → Lane) : (s.mapLane i f).bss = s.bss := rfl
@[simp] theorem mapLane_acu (i : Fin 4) (f : Lane → Lane) : (s.mapLane i f).acu = s.acu := rfl
@[simp] theorem mapLane_lma (i : Fin 4) (f : Lane → Lane) : (s.mapLane i f).lma = s.lma := rfl
@[simp] theorem mapLane_out (i : Fin 4) (f : Lane → Lane) : (s.mapLane i f).out = s.out := rfl
@[simp] theorem mapLane_pending (i : Fin 4) (f : Lane → Lane) : (s.mapLane i f).pending = s.pending := rfl
@[simp] theorem emit_tle (o : Output) : (s.emit o).tle = s.tle := rfl
@[simp] theorem emit_rtu (o : Output) : (s.emit o).rtu = s.rtu := rfl
@[simp] theorem emit_slr (o : Output) : (s.emit o).slr = s.slr := rfl
@[simp] theorem emit_las (o : Output) : (s.emit o).las = s.las := rfl
@[simp] theorem emit_ldu (o : Output) : (s.emit o).ldu = s.ldu := rfl
@[simp] theorem emit_bcr (o : Output) : (s.emit o).bcr = s.bcr := rfl
@[simp] theorem emit_bss (o : Output) : (s.emit o).bss = s.bss := rfl
@[simp] theorem emit_acu (o : Output) : (s.emit o).acu = s.acu := rfl
@[simp] theorem emit_lma (o : Output) : (s.emit o).lma = s.lma := rfl
@[simp] theorem emit_out (o : Output) : (s.emit o).out = s.out ++ [o] := rfl
@[simp] theorem emit_pending (o : Output) : (s.emit o).pending = s.pending := rfl

/-! ### raise, count, placeNotice -/

@[simp] theorem raise_tle (g : Flag) : (s.raise g).tle = s.tle := rfl
@[simp] theorem raise_rtu (g : Flag) : (s.raise g).rtu = s.rtu := rfl
@[simp] theorem raise_slr (g : Flag) : (s.raise g).slr = s.slr := rfl
@[simp] theorem raise_las (g : Flag) : (s.raise g).las = s.las := rfl
@[simp] theorem raise_ldu (g : Flag) : (s.raise g).ldu = s.ldu := rfl
@[simp] theorem raise_bcr (g : Flag) : (s.raise g).bcr = s.bcr := rfl
@[simp] theorem raise_bss (g : Flag) : (s.raise g).bss = s.bss := rfl
@[simp] theorem raise_acu (g : Flag) : (s.raise g).acu = s.acu := rfl
@[simp] theorem raise_lma (g : Flag) : (s.raise g).lma = s.lma.raise g := rfl
@[simp] theorem raise_out (g : Flag) : (s.raise g).out = s.out := rfl
@[simp] theorem raise_pending (g : Flag) : (s.raise g).pending = s.pending := rfl
@[simp] theorem count_tle (c : Counter) (k : Nat) : (s.count c k).tle = s.tle := rfl
@[simp] theorem count_rtu (c : Counter) (k : Nat) : (s.count c k).rtu = s.rtu := rfl
@[simp] theorem count_slr (c : Counter) (k : Nat) : (s.count c k).slr = s.slr := rfl
@[simp] theorem count_las (c : Counter) (k : Nat) : (s.count c k).las = s.las := rfl
@[simp] theorem count_ldu (c : Counter) (k : Nat) : (s.count c k).ldu = s.ldu := rfl
@[simp] theorem count_bcr (c : Counter) (k : Nat) : (s.count c k).bcr = s.bcr := rfl
@[simp] theorem count_bss (c : Counter) (k : Nat) : (s.count c k).bss = s.bss := rfl
@[simp] theorem count_acu (c : Counter) (k : Nat) : (s.count c k).acu = s.acu := rfl
@[simp] theorem count_lma (c : Counter) (k : Nat) : (s.count c k).lma = s.lma.addCount c k := rfl
@[simp] theorem count_out (c : Counter) (k : Nat) : (s.count c k).out = s.out := rfl
@[simp] theorem count_pending (c : Counter) (k : Nat) : (s.count c k).pending = s.pending := rfl
@[simp] theorem placeNotice_tle (b : BitVec 21) : (s.placeNotice b).tle = s.tle := rfl
@[simp] theorem placeNotice_rtu (b : BitVec 21) : (s.placeNotice b).rtu = s.rtu := rfl
@[simp] theorem placeNotice_slr (b : BitVec 21) : (s.placeNotice b).slr = s.slr := rfl
@[simp] theorem placeNotice_las (b : BitVec 21) : (s.placeNotice b).las = s.las := rfl
@[simp] theorem placeNotice_ldu (b : BitVec 21) : (s.placeNotice b).ldu = s.ldu := rfl
@[simp] theorem placeNotice_bcr (b : BitVec 21) : (s.placeNotice b).bcr = s.bcr := rfl
@[simp] theorem placeNotice_bss (b : BitVec 21) : (s.placeNotice b).bss = s.bss := rfl
@[simp] theorem placeNotice_acu (b : BitVec 21) : (s.placeNotice b).acu = s.acu := rfl
@[simp] theorem placeNotice_lma (b : BitVec 21) : (s.placeNotice b).lma = s.lma.placeNotice b := rfl
@[simp] theorem placeNotice_out (b : BitVec 21) : (s.placeNotice b).out = s.out := rfl
@[simp] theorem placeNotice_pending (b : BitVec 21) : (s.placeNotice b).pending = s.pending := rfl

/-! ### Fields of the agent under raise and count -/

variable (l : Lma)

@[simp] theorem lma_raise_ingress (g : Flag) : (l.raise g).ingress = l.ingress := rfl
@[simp] theorem lma_raise_egress (g : Flag) : (l.raise g).egress = l.egress := rfl
@[simp] theorem lma_raise_noticePending (g : Flag) : (l.raise g).noticePending = l.noticePending := rfl
@[simp] theorem lma_raise_rotation (g : Flag) : (l.raise g).rotation = l.rotation := rfl
@[simp] theorem lma_raise_flags (g : Flag) : (l.raise g).flags = l.flags ||| g.bit := rfl
@[simp] theorem lma_raise_masks (g : Flag) : (l.raise g).masks = l.masks := rfl
@[simp] theorem lma_raise_counters (g : Flag) : (l.raise g).counters = l.counters := rfl
@[simp] theorem lma_addCount_ingress (c : Counter) (k : Nat) : (l.addCount c k).ingress = l.ingress := rfl
@[simp] theorem lma_addCount_egress (c : Counter) (k : Nat) : (l.addCount c k).egress = l.egress := rfl
@[simp] theorem lma_addCount_noticePending (c : Counter) (k : Nat) : (l.addCount c k).noticePending = l.noticePending := rfl
@[simp] theorem lma_addCount_rotation (c : Counter) (k : Nat) : (l.addCount c k).rotation = l.rotation := rfl
@[simp] theorem lma_addCount_flags (c : Counter) (k : Nat) : (l.addCount c k).flags = l.flags := rfl
@[simp] theorem lma_addCount_masks (c : Counter) (k : Nat) : (l.addCount c k).masks = l.masks := rfl
@[simp] theorem lma_place_ingress (m : UpMessage) : (l.place m).ingress = l.ingress := rfl
@[simp] theorem lma_place_egress (m : UpMessage) : (l.place m).egress = l.egress ++ [m] := rfl
@[simp] theorem lma_place_noticePending (m : UpMessage) : (l.place m).noticePending = l.noticePending := rfl
@[simp] theorem lma_place_rotation (m : UpMessage) : (l.place m).rotation = l.rotation := rfl
@[simp] theorem lma_place_flags (m : UpMessage) : (l.place m).flags = l.flags := rfl
@[simp] theorem lma_place_masks (m : UpMessage) : (l.place m).masks = l.masks := rfl
@[simp] theorem lma_place_counters (m : UpMessage) : (l.place m).counters = l.counters := rfl

end Sys2Proof.Machine.State
end

