-- ==== Sys2Proof/Laws/Accessory.lean ====
section
/-! SUPPORT. What the operations of the accessory channel leave as they were, block by block: one lemma for each operation and block. -/

namespace Sys2Proof.Machine

variable (s : State)

/-! ### startTx -/

@[simp] theorem startTx_tle : (startTx s).tle = s.tle := by
  unfold startTx; (try dsimp only); (repeat' split) <;> simp
@[simp] theorem startTx_rtu : (startTx s).rtu = s.rtu := by
  unfold startTx; (try dsimp only); (repeat' split) <;> simp
@[simp] theorem startTx_slr : (startTx s).slr = s.slr := by
  unfold startTx; (try dsimp only); (repeat' split) <;> simp
@[simp] theorem startTx_las : (startTx s).las = s.las := by
  unfold startTx; (try dsimp only); (repeat' split) <;> simp
@[simp] theorem startTx_ldu : (startTx s).ldu = s.ldu := by
  unfold startTx; (try dsimp only); (repeat' split) <;> simp
@[simp] theorem startTx_bcr : (startTx s).bcr = s.bcr := by
  unfold startTx; (try dsimp only); (repeat' split) <;> simp
@[simp] theorem startTx_bss : (startTx s).bss = s.bss := by
  unfold startTx; (try dsimp only); (repeat' split) <;> simp
@[simp] theorem startTx_lma : (startTx s).lma = s.lma := by
  unfold startTx; (try dsimp only); (repeat' split) <;> simp
@[simp] theorem startTx_pending : (startTx s).pending = s.pending := by
  unfold startTx; (try dsimp only); (repeat' split) <;> simp

/-! ### txDone -/

@[simp] theorem txDone_tle : (txDone s).tle = s.tle := by
  unfold txDone; (try dsimp only); (repeat' split) <;> simp
@[simp] theorem txDone_rtu : (txDone s).rtu = s.rtu := by
  unfold txDone; (try dsimp only); (repeat' split) <;> simp
@[simp] theorem txDone_slr : (txDone s).slr = s.slr := by
  unfold txDone; (try dsimp only); (repeat' split) <;> simp
@[simp] theorem txDone_las : (txDone s).las = s.las := by
  unfold txDone; (try dsimp only); (repeat' split) <;> simp
@[simp] theorem txDone_ldu : (txDone s).ldu = s.ldu := by
  unfold txDone; (try dsimp only); (repeat' split) <;> simp
@[simp] theorem txDone_bcr : (txDone s).bcr = s.bcr := by
  unfold txDone; (try dsimp only); (repeat' split) <;> simp
@[simp] theorem txDone_bss : (txDone s).bss = s.bss := by
  unfold txDone; (try dsimp only); (repeat' split) <;> simp
@[simp] theorem txDone_lma : (txDone s).lma = s.lma := by
  unfold txDone; (try dsimp only); (repeat' split) <;> simp
@[simp] theorem txDone_pending : (txDone s).pending = s.pending := by
  unfold txDone; (try dsimp only); (repeat' split) <;> simp

/-! ### auxLost -/

@[simp] theorem auxLost_tle : (auxLost s).tle = s.tle := by
  unfold auxLost; (try dsimp only); (repeat' split) <;> simp
@[simp] theorem auxLost_rtu : (auxLost s).rtu = s.rtu := by
  unfold auxLost; (try dsimp only); (repeat' split) <;> simp
@[simp] theorem auxLost_slr : (auxLost s).slr = s.slr := by
  unfold auxLost; (try dsimp only); (repeat' split) <;> simp
@[simp] theorem auxLost_las : (auxLost s).las = s.las := by
  unfold auxLost; (try dsimp only); (repeat' split) <;> simp
@[simp] theorem auxLost_ldu : (auxLost s).ldu = s.ldu := by
  unfold auxLost; (try dsimp only); (repeat' split) <;> simp
@[simp] theorem auxLost_bcr : (auxLost s).bcr = s.bcr := by
  unfold auxLost; (try dsimp only); (repeat' split) <;> simp
@[simp] theorem auxLost_bss : (auxLost s).bss = s.bss := by
  unfold auxLost; (try dsimp only); (repeat' split) <;> simp
@[simp] theorem auxLost_acu : (auxLost s).acu = s.acu := by
  unfold auxLost; (try dsimp only); (repeat' split) <;> simp
@[simp] theorem auxLost_out : (auxLost s).out = s.out := by
  unfold auxLost; (try dsimp only); (repeat' split) <;> simp
@[simp] theorem auxLost_pending : (auxLost s).pending = s.pending := by
  unfold auxLost; (try dsimp only); (repeat' split) <;> simp

/-! ### offerDown -/

@[simp] theorem offerDown_tle (b : Byte) : (offerDown b s).tle = s.tle := by
  unfold offerDown; (try dsimp only); (repeat' split) <;> simp
@[simp] theorem offerDown_rtu (b : Byte) : (offerDown b s).rtu = s.rtu := by
  unfold offerDown; (try dsimp only); (repeat' split) <;> simp
@[simp] theorem offerDown_slr (b : Byte) : (offerDown b s).slr = s.slr := by
  unfold offerDown; (try dsimp only); (repeat' split) <;> simp
@[simp] theorem offerDown_las (b : Byte) : (offerDown b s).las = s.las := by
  unfold offerDown; (try dsimp only); (repeat' split) <;> simp
@[simp] theorem offerDown_ldu (b : Byte) : (offerDown b s).ldu = s.ldu := by
  unfold offerDown; (try dsimp only); (repeat' split) <;> simp
@[simp] theorem offerDown_bcr (b : Byte) : (offerDown b s).bcr = s.bcr := by
  unfold offerDown; (try dsimp only); (repeat' split) <;> simp
@[simp] theorem offerDown_bss (b : Byte) : (offerDown b s).bss = s.bss := by
  unfold offerDown; (try dsimp only); (repeat' split) <;> simp
@[simp] theorem offerDown_pending (b : Byte) : (offerDown b s).pending = s.pending := by
  unfold offerDown; (try dsimp only); (repeat' split) <;> simp

/-! ### offerUp -/

@[simp] theorem offerUp_tle (b : Byte) : (offerUp b s).tle = s.tle := by
  unfold offerUp; (try dsimp only); (repeat' split) <;> simp
@[simp] theorem offerUp_rtu (b : Byte) : (offerUp b s).rtu = s.rtu := by
  unfold offerUp; (try dsimp only); (repeat' split) <;> simp
@[simp] theorem offerUp_slr (b : Byte) : (offerUp b s).slr = s.slr := by
  unfold offerUp; (try dsimp only); (repeat' split) <;> simp
@[simp] theorem offerUp_las (b : Byte) : (offerUp b s).las = s.las := by
  unfold offerUp; (try dsimp only); (repeat' split) <;> simp
@[simp] theorem offerUp_ldu (b : Byte) : (offerUp b s).ldu = s.ldu := by
  unfold offerUp; (try dsimp only); (repeat' split) <;> simp
@[simp] theorem offerUp_bcr (b : Byte) : (offerUp b s).bcr = s.bcr := by
  unfold offerUp; (try dsimp only); (repeat' split) <;> simp
@[simp] theorem offerUp_bss (b : Byte) : (offerUp b s).bss = s.bss := by
  unfold offerUp; (try dsimp only); (repeat' split) <;> simp
@[simp] theorem offerUp_out (b : Byte) : (offerUp b s).out = s.out := by
  unfold offerUp; (try dsimp only); (repeat' split) <;> simp
@[simp] theorem offerUp_pending (b : Byte) : (offerUp b s).pending = s.pending := by
  unfold offerUp; (try dsimp only); (repeat' split) <;> simp

/-! ### ownerRemote -/

@[simp] theorem ownerRemote_tle : (ownerRemote s).tle = s.tle := by
  unfold ownerRemote; (try dsimp only); (repeat' split) <;> simp
@[simp] theorem ownerRemote_rtu : (ownerRemote s).rtu = s.rtu := by
  unfold ownerRemote; (try dsimp only); (repeat' split) <;> simp
@[simp] theorem ownerRemote_slr : (ownerRemote s).slr = s.slr := by
  unfold ownerRemote; (try dsimp only); (repeat' split) <;> simp
@[simp] theorem ownerRemote_las : (ownerRemote s).las = s.las := by
  unfold ownerRemote; (try dsimp only); (repeat' split) <;> simp
@[simp] theorem ownerRemote_ldu : (ownerRemote s).ldu = s.ldu := by
  unfold ownerRemote; (try dsimp only); (repeat' split) <;> simp
@[simp] theorem ownerRemote_bcr : (ownerRemote s).bcr = s.bcr := by
  unfold ownerRemote; (try dsimp only); (repeat' split) <;> simp
@[simp] theorem ownerRemote_bss : (ownerRemote s).bss = s.bss := by
  unfold ownerRemote; (try dsimp only); (repeat' split) <;> simp
@[simp] theorem ownerRemote_lma : (ownerRemote s).lma = s.lma := by
  unfold ownerRemote; (try dsimp only); (repeat' split) <;> simp
@[simp] theorem ownerRemote_pending : (ownerRemote s).pending = s.pending := by
  unfold ownerRemote; (try dsimp only); (repeat' split) <;> simp

/-! ### ownerLocal -/

@[simp] theorem ownerLocal_tle : (ownerLocal s).tle = s.tle := by
  unfold ownerLocal; (try dsimp only); (repeat' split) <;> simp
@[simp] theorem ownerLocal_rtu : (ownerLocal s).rtu = s.rtu := by
  unfold ownerLocal; (try dsimp only); (repeat' split) <;> simp
@[simp] theorem ownerLocal_slr : (ownerLocal s).slr = s.slr := by
  unfold ownerLocal; (try dsimp only); (repeat' split) <;> simp
@[simp] theorem ownerLocal_las : (ownerLocal s).las = s.las := by
  unfold ownerLocal; (try dsimp only); (repeat' split) <;> simp
@[simp] theorem ownerLocal_ldu : (ownerLocal s).ldu = s.ldu := by
  unfold ownerLocal; (try dsimp only); (repeat' split) <;> simp
@[simp] theorem ownerLocal_bcr : (ownerLocal s).bcr = s.bcr := by
  unfold ownerLocal; (try dsimp only); (repeat' split) <;> simp
@[simp] theorem ownerLocal_bss : (ownerLocal s).bss = s.bss := by
  unfold ownerLocal; (try dsimp only); (repeat' split) <;> simp
@[simp] theorem ownerLocal_lma : (ownerLocal s).lma = s.lma := by
  unfold ownerLocal; (try dsimp only); (repeat' split) <;> simp
@[simp] theorem ownerLocal_out : (ownerLocal s).out = s.out := by
  unfold ownerLocal; (try dsimp only); (repeat' split) <;> simp
@[simp] theorem ownerLocal_pending : (ownerLocal s).pending = s.pending := by
  unfold ownerLocal; (try dsimp only); (repeat' split) <;> simp

/-! ### countCall -/

@[simp] theorem countCall_tle : (countCall s).tle = s.tle := by
  unfold countCall; (try dsimp only); (repeat' split) <;> simp
@[simp] theorem countCall_rtu : (countCall s).rtu = s.rtu := by
  unfold countCall; (try dsimp only); (repeat' split) <;> simp
@[simp] theorem countCall_slr : (countCall s).slr = s.slr := by
  unfold countCall; (try dsimp only); (repeat' split) <;> simp
@[simp] theorem countCall_las : (countCall s).las = s.las := by
  unfold countCall; (try dsimp only); (repeat' split) <;> simp
@[simp] theorem countCall_ldu : (countCall s).ldu = s.ldu := by
  unfold countCall; (try dsimp only); (repeat' split) <;> simp
@[simp] theorem countCall_bcr : (countCall s).bcr = s.bcr := by
  unfold countCall; (try dsimp only); (repeat' split) <;> simp
@[simp] theorem countCall_bss : (countCall s).bss = s.bss := by
  unfold countCall; (try dsimp only); (repeat' split) <;> simp
@[simp] theorem countCall_out : (countCall s).out = s.out := by
  unfold countCall; (try dsimp only); (repeat' split) <;> simp
@[simp] theorem countCall_pending : (countCall s).pending = s.pending := by
  unfold countCall; (try dsimp only); (repeat' split) <;> simp

/-! ### takeAuxByte -/

@[simp] theorem takeAuxByte_tle (b : Byte) : (takeAuxByte s b).tle = s.tle := by
  unfold takeAuxByte; (try dsimp only); (repeat' split) <;> simp
@[simp] theorem takeAuxByte_rtu (b : Byte) : (takeAuxByte s b).rtu = s.rtu := by
  unfold takeAuxByte; (try dsimp only); (repeat' split) <;> simp
@[simp] theorem takeAuxByte_slr (b : Byte) : (takeAuxByte s b).slr = s.slr := by
  unfold takeAuxByte; (try dsimp only); (repeat' split) <;> simp
@[simp] theorem takeAuxByte_las (b : Byte) : (takeAuxByte s b).las = s.las := by
  unfold takeAuxByte; (try dsimp only); (repeat' split) <;> simp
@[simp] theorem takeAuxByte_ldu (b : Byte) : (takeAuxByte s b).ldu = s.ldu := by
  unfold takeAuxByte; (try dsimp only); (repeat' split) <;> simp
@[simp] theorem takeAuxByte_bcr (b : Byte) : (takeAuxByte s b).bcr = s.bcr := by
  unfold takeAuxByte; (try dsimp only); (repeat' split) <;> simp
@[simp] theorem takeAuxByte_bss (b : Byte) : (takeAuxByte s b).bss = s.bss := by
  unfold takeAuxByte; (try dsimp only); (repeat' split) <;> simp
@[simp] theorem takeAuxByte_pending (b : Byte) : (takeAuxByte s b).pending = s.pending := by
  unfold takeAuxByte; (try dsimp only); (repeat' split) <;> simp

/-! ### takePortByte -/

@[simp] theorem takePortByte_tle (b : Byte) : (takePortByte b s).tle = s.tle := by
  unfold takePortByte; (try dsimp only); (repeat' split) <;> simp
@[simp] theorem takePortByte_rtu (b : Byte) : (takePortByte b s).rtu = s.rtu := by
  unfold takePortByte; (try dsimp only); (repeat' split) <;> simp
@[simp] theorem takePortByte_slr (b : Byte) : (takePortByte b s).slr = s.slr := by
  unfold takePortByte; (try dsimp only); (repeat' split) <;> simp
@[simp] theorem takePortByte_las (b : Byte) : (takePortByte b s).las = s.las := by
  unfold takePortByte; (try dsimp only); (repeat' split) <;> simp
@[simp] theorem takePortByte_ldu (b : Byte) : (takePortByte b s).ldu = s.ldu := by
  unfold takePortByte; (try dsimp only); (repeat' split) <;> simp
@[simp] theorem takePortByte_bcr (b : Byte) : (takePortByte b s).bcr = s.bcr := by
  unfold takePortByte; (try dsimp only); (repeat' split) <;> simp
@[simp] theorem takePortByte_bss (b : Byte) : (takePortByte b s).bss = s.bss := by
  unfold takePortByte; (try dsimp only); (repeat' split) <;> simp
@[simp] theorem takePortByte_pending (b : Byte) : (takePortByte b s).pending = s.pending := by
  unfold takePortByte; (try dsimp only); (repeat' split) <;> simp

/-! ### takeCallSample -/

@[simp] theorem takeCallSample_tle (p : Bool) : (takeCallSample p s).tle = s.tle := by
  unfold takeCallSample; (try dsimp only); (repeat' split) <;> simp
@[simp] theorem takeCallSample_rtu (p : Bool) : (takeCallSample p s).rtu = s.rtu := by
  unfold takeCallSample; (try dsimp only); (repeat' split) <;> simp
@[simp] theorem takeCallSample_slr (p : Bool) : (takeCallSample p s).slr = s.slr := by
  unfold takeCallSample; (try dsimp only); (repeat' split) <;> simp
@[simp] theorem takeCallSample_las (p : Bool) : (takeCallSample p s).las = s.las := by
  unfold takeCallSample; (try dsimp only); (repeat' split) <;> simp
@[simp] theorem takeCallSample_ldu (p : Bool) : (takeCallSample p s).ldu = s.ldu := by
  unfold takeCallSample; (try dsimp only); (repeat' split) <;> simp
@[simp] theorem takeCallSample_bcr (p : Bool) : (takeCallSample p s).bcr = s.bcr := by
  unfold takeCallSample; (try dsimp only); (repeat' split) <;> simp
@[simp] theorem takeCallSample_bss (p : Bool) : (takeCallSample p s).bss = s.bss := by
  unfold takeCallSample; (try dsimp only); (repeat' split) <;> simp
@[simp] theorem takeCallSample_out (p : Bool) : (takeCallSample p s).out = s.out := by
  unfold takeCallSample; (try dsimp only); (repeat' split) <;> simp
@[simp] theorem takeCallSample_pending (p : Bool) : (takeCallSample p s).pending = s.pending := by
  unfold takeCallSample; (try dsimp only); (repeat' split) <;> simp

/-! ### clearAccessory -/

@[simp] theorem clearAccessory_tle : (clearAccessory s).tle = s.tle := by
  unfold clearAccessory; (try dsimp only); (repeat' split) <;> simp
@[simp] theorem clearAccessory_rtu : (clearAccessory s).rtu = s.rtu := by
  unfold clearAccessory; (try dsimp only); (repeat' split) <;> simp
@[simp] theorem clearAccessory_slr : (clearAccessory s).slr = s.slr := by
  unfold clearAccessory; (try dsimp only); (repeat' split) <;> simp
@[simp] theorem clearAccessory_las : (clearAccessory s).las = s.las := by
  unfold clearAccessory; (try dsimp only); (repeat' split) <;> simp
@[simp] theorem clearAccessory_ldu : (clearAccessory s).ldu = s.ldu := by
  unfold clearAccessory; (try dsimp only); (repeat' split) <;> simp
@[simp] theorem clearAccessory_bcr : (clearAccessory s).bcr = s.bcr := by
  unfold clearAccessory; (try dsimp only); (repeat' split) <;> simp
@[simp] theorem clearAccessory_bss : (clearAccessory s).bss = s.bss := by
  unfold clearAccessory; (try dsimp only); (repeat' split) <;> simp
@[simp] theorem clearAccessory_lma : (clearAccessory s).lma = s.lma := by
  unfold clearAccessory; (try dsimp only); (repeat' split) <;> simp
@[simp] theorem clearAccessory_out : (clearAccessory s).out = s.out := by
  unfold clearAccessory; (try dsimp only); (repeat' split) <;> simp
@[simp] theorem clearAccessory_pending : (clearAccessory s).pending = s.pending := by
  unfold clearAccessory; (try dsimp only); (repeat' split) <;> simp

end Sys2Proof.Machine
end

