-- ==== Sys2Proof/Laws/Ops.lean ====
section
/-! SUPPORT. What the shared operations leave as they were, block by block: one lemma for each operation and block. -/

namespace Sys2Proof.Machine

/-- A fold keeps what each of its steps keeps. -/
theorem foldl_keep {α β : Type} (g : State → β) (f : State → α → State) (h : ∀ s a, g (f s a) = g s) (l : List α)
    (s : State) : g (l.foldl f s) = g s := by
  induction l generalizing s with
  | nil => rfl
  | cons a l ih => simp [List.foldl, ih, h]

variable (s : State)

/-! ### emptyBuffer -/

@[simp] theorem emptyBuffer_rtu (c : Counter) : (emptyBuffer c s).rtu = s.rtu := by
  unfold emptyBuffer; (try dsimp only); (repeat' split) <;> simp
@[simp] theorem emptyBuffer_slr (c : Counter) : (emptyBuffer c s).slr = s.slr := by
  unfold emptyBuffer; (try dsimp only); (repeat' split) <;> simp
@[simp] theorem emptyBuffer_las (c : Counter) : (emptyBuffer c s).las = s.las := by
  unfold emptyBuffer; (try dsimp only); (repeat' split) <;> simp
@[simp] theorem emptyBuffer_ldu (c : Counter) : (emptyBuffer c s).ldu = s.ldu := by
  unfold emptyBuffer; (try dsimp only); (repeat' split) <;> simp
@[simp] theorem emptyBuffer_bcr (c : Counter) : (emptyBuffer c s).bcr = s.bcr := by
  unfold emptyBuffer; (try dsimp only); (repeat' split) <;> simp
@[simp] theorem emptyBuffer_bss (c : Counter) : (emptyBuffer c s).bss = s.bss := by
  unfold emptyBuffer; (try dsimp only); (repeat' split) <;> simp
@[simp] theorem emptyBuffer_acu (c : Counter) : (emptyBuffer c s).acu = s.acu := by
  unfold emptyBuffer; (try dsimp only); (repeat' split) <;> simp
@[simp] theorem emptyBuffer_out (c : Counter) : (emptyBuffer c s).out = s.out := by
  unfold emptyBuffer; (try dsimp only); (repeat' split) <;> simp
@[simp] theorem emptyBuffer_pending (c : Counter) : (emptyBuffer c s).pending = s.pending := by
  unfold emptyBuffer; (try dsimp only); (repeat' split) <;> simp

/-! ### stopSuperframe -/

@[simp] theorem stopSuperframe_rtu : (stopSuperframe s).rtu = s.rtu := by
  unfold stopSuperframe; (try dsimp only); (repeat' split) <;> simp
@[simp] theorem stopSuperframe_slr : (stopSuperframe s).slr = s.slr := by
  unfold stopSuperframe; (try dsimp only); (repeat' split) <;> simp
@[simp] theorem stopSuperframe_las : (stopSuperframe s).las = s.las := by
  unfold stopSuperframe; (try dsimp only); (repeat' split) <;> simp
@[simp] theorem stopSuperframe_ldu : (stopSuperframe s).ldu = s.ldu := by
  unfold stopSuperframe; (try dsimp only); (repeat' split) <;> simp
@[simp] theorem stopSuperframe_bcr : (stopSuperframe s).bcr = s.bcr := by
  unfold stopSuperframe; (try dsimp only); (repeat' split) <;> simp
@[simp] theorem stopSuperframe_bss : (stopSuperframe s).bss = s.bss := by
  unfold stopSuperframe; (try dsimp only); (repeat' split) <;> simp
@[simp] theorem stopSuperframe_acu : (stopSuperframe s).acu = s.acu := by
  unfold stopSuperframe; (try dsimp only); (repeat' split) <;> simp
@[simp] theorem stopSuperframe_lma : (stopSuperframe s).lma = s.lma := by
  unfold stopSuperframe; (try dsimp only); (repeat' split) <;> simp
@[simp] theorem stopSuperframe_out : (stopSuperframe s).out = s.out := by
  unfold stopSuperframe; (try dsimp only); (repeat' split) <;> simp
@[simp] theorem stopSuperframe_pending : (stopSuperframe s).pending = s.pending := by
  unfold stopSuperframe; (try dsimp only); (repeat' split) <;> simp

/-! ### leaveOnline -/

@[simp] theorem leaveOnline_rtu : (leaveOnline s).rtu = s.rtu := by
  unfold leaveOnline; (try dsimp only); (repeat' split) <;> simp
@[simp] theorem leaveOnline_slr : (leaveOnline s).slr = s.slr := by
  unfold leaveOnline; (try dsimp only); (repeat' split) <;> simp
@[simp] theorem leaveOnline_las : (leaveOnline s).las = s.las := by
  unfold leaveOnline; (try dsimp only); (repeat' split) <;> simp
@[simp] theorem leaveOnline_ldu : (leaveOnline s).ldu = s.ldu := by
  unfold leaveOnline; (try dsimp only); (repeat' split) <;> simp
@[simp] theorem leaveOnline_bcr : (leaveOnline s).bcr = s.bcr := by
  unfold leaveOnline; (try dsimp only); (repeat' split) <;> simp
@[simp] theorem leaveOnline_bss : (leaveOnline s).bss = s.bss := by
  unfold leaveOnline; (try dsimp only); (repeat' split) <;> simp
@[simp] theorem leaveOnline_acu : (leaveOnline s).acu = s.acu := by
  unfold leaveOnline; (try dsimp only); (repeat' split) <;> simp
@[simp] theorem leaveOnline_out : (leaveOnline s).out = s.out := by
  unfold leaveOnline; (try dsimp only); (repeat' split) <;> simp
@[simp] theorem leaveOnline_pending : (leaveOnline s).pending = s.pending := by
  unfold leaveOnline; (try dsimp only); (repeat' split) <;> simp

/-! ### setLink -/

@[simp] theorem setLink_rtu (l : LinkState) : (setLink l s).rtu = s.rtu := by
  unfold setLink; (try dsimp only); (repeat' split) <;> simp
@[simp] theorem setLink_slr (l : LinkState) : (setLink l s).slr = s.slr := by
  unfold setLink; (try dsimp only); (repeat' split) <;> simp
@[simp] theorem setLink_las (l : LinkState) : (setLink l s).las = s.las := by
  unfold setLink; (try dsimp only); (repeat' split) <;> simp
@[simp] theorem setLink_ldu (l : LinkState) : (setLink l s).ldu = s.ldu := by
  unfold setLink; (try dsimp only); (repeat' split) <;> simp
@[simp] theorem setLink_bcr (l : LinkState) : (setLink l s).bcr = s.bcr := by
  unfold setLink; (try dsimp only); (repeat' split) <;> simp
@[simp] theorem setLink_bss (l : LinkState) : (setLink l s).bss = s.bss := by
  unfold setLink; (try dsimp only); (repeat' split) <;> simp
@[simp] theorem setLink_acu (l : LinkState) : (setLink l s).acu = s.acu := by
  unfold setLink; (try dsimp only); (repeat' split) <;> simp
@[simp] theorem setLink_out (l : LinkState) : (setLink l s).out = s.out := by
  unfold setLink; (try dsimp only); (repeat' split) <;> simp
@[simp] theorem setLink_pending (l : LinkState) : (setLink l s).pending = s.pending := by
  unfold setLink; (try dsimp only); (repeat' split) <;> simp

/-! ### startAttempt -/

@[simp] theorem startAttempt_rtu (p : Profile) : (startAttempt p s).rtu = s.rtu := by
  unfold startAttempt; (try dsimp only); (repeat' split) <;> simp
@[simp] theorem startAttempt_slr (p : Profile) : (startAttempt p s).slr = s.slr := by
  unfold startAttempt; (try dsimp only); (repeat' split) <;> simp
@[simp] theorem startAttempt_las (p : Profile) : (startAttempt p s).las = s.las := by
  unfold startAttempt; (try dsimp only); (repeat' split) <;> simp
@[simp] theorem startAttempt_ldu (p : Profile) : (startAttempt p s).ldu = s.ldu := by
  unfold startAttempt; (try dsimp only); (repeat' split) <;> simp
@[simp] theorem startAttempt_bcr (p : Profile) : (startAttempt p s).bcr = s.bcr := by
  unfold startAttempt; (try dsimp only); (repeat' split) <;> simp
@[simp] theorem startAttempt_bss (p : Profile) : (startAttempt p s).bss = s.bss := by
  unfold startAttempt; (try dsimp only); (repeat' split) <;> simp
@[simp] theorem startAttempt_acu (p : Profile) : (startAttempt p s).acu = s.acu := by
  unfold startAttempt; (try dsimp only); (repeat' split) <;> simp
@[simp] theorem startAttempt_lma (p : Profile) : (startAttempt p s).lma = s.lma := by
  unfold startAttempt; (try dsimp only); (repeat' split) <;> simp
@[simp] theorem startAttempt_out (p : Profile) : (startAttempt p s).out = s.out := by
  unfold startAttempt; (try dsimp only); (repeat' split) <;> simp
@[simp] theorem startAttempt_pending (p : Profile) : (startAttempt p s).pending = s.pending := by
  unfold startAttempt; (try dsimp only); (repeat' split) <;> simp

/-! ### enterTraining -/

@[simp] theorem enterTraining_rtu (p : Profile) : (enterTraining p s).rtu = s.rtu := by
  unfold enterTraining; (try dsimp only); (repeat' split) <;> simp
@[simp] theorem enterTraining_slr (p : Profile) : (enterTraining p s).slr = s.slr := by
  unfold enterTraining; (try dsimp only); (repeat' split) <;> simp
@[simp] theorem enterTraining_las (p : Profile) : (enterTraining p s).las = s.las := by
  unfold enterTraining; (try dsimp only); (repeat' split) <;> simp
@[simp] theorem enterTraining_ldu (p : Profile) : (enterTraining p s).ldu = s.ldu := by
  unfold enterTraining; (try dsimp only); (repeat' split) <;> simp
@[simp] theorem enterTraining_bcr (p : Profile) : (enterTraining p s).bcr = s.bcr := by
  unfold enterTraining; (try dsimp only); (repeat' split) <;> simp
@[simp] theorem enterTraining_bss (p : Profile) : (enterTraining p s).bss = s.bss := by
  unfold enterTraining; (try dsimp only); (repeat' split) <;> simp
@[simp] theorem enterTraining_acu (p : Profile) : (enterTraining p s).acu = s.acu := by
  unfold enterTraining; (try dsimp only); (repeat' split) <;> simp
@[simp] theorem enterTraining_out (p : Profile) : (enterTraining p s).out = s.out := by
  unfold enterTraining; (try dsimp only); (repeat' split) <;> simp
@[simp] theorem enterTraining_pending (p : Profile) : (enterTraining p s).pending = s.pending := by
  unfold enterTraining; (try dsimp only); (repeat' split) <;> simp

/-! ### enterDown -/

@[simp] theorem enterDown_rtu (r : Bool) : (enterDown r s).rtu = s.rtu := by
  unfold enterDown; (try dsimp only); (repeat' split) <;> simp
@[simp] theorem enterDown_slr (r : Bool) : (enterDown r s).slr = s.slr := by
  unfold enterDown; (try dsimp only); (repeat' split) <;> simp
@[simp] theorem enterDown_las (r : Bool) : (enterDown r s).las = s.las := by
  unfold enterDown; (try dsimp only); (repeat' split) <;> simp
@[simp] theorem enterDown_ldu (r : Bool) : (enterDown r s).ldu = s.ldu := by
  unfold enterDown; (try dsimp only); (repeat' split) <;> simp
@[simp] theorem enterDown_bcr (r : Bool) : (enterDown r s).bcr = s.bcr := by
  unfold enterDown; (try dsimp only); (repeat' split) <;> simp
@[simp] theorem enterDown_bss (r : Bool) : (enterDown r s).bss = s.bss := by
  unfold enterDown; (try dsimp only); (repeat' split) <;> simp
@[simp] theorem enterDown_acu (r : Bool) : (enterDown r s).acu = s.acu := by
  unfold enterDown; (try dsimp only); (repeat' split) <;> simp
@[simp] theorem enterDown_out (r : Bool) : (enterDown r s).out = s.out := by
  unfold enterDown; (try dsimp only); (repeat' split) <;> simp
@[simp] theorem enterDown_pending (r : Bool) : (enterDown r s).pending = s.pending := by
  unfold enterDown; (try dsimp only); (repeat' split) <;> simp

/-! ### recomputeLadder -/

@[simp] theorem recomputeLadder_rtu : (recomputeLadder s).rtu = s.rtu := by
  unfold recomputeLadder; (try dsimp only); (repeat' split) <;> simp
@[simp] theorem recomputeLadder_slr : (recomputeLadder s).slr = s.slr := by
  unfold recomputeLadder; (try dsimp only); (repeat' split) <;> simp
@[simp] theorem recomputeLadder_las : (recomputeLadder s).las = s.las := by
  unfold recomputeLadder; (try dsimp only); (repeat' split) <;> simp
@[simp] theorem recomputeLadder_ldu : (recomputeLadder s).ldu = s.ldu := by
  unfold recomputeLadder; (try dsimp only); (repeat' split) <;> simp
@[simp] theorem recomputeLadder_bcr : (recomputeLadder s).bcr = s.bcr := by
  unfold recomputeLadder; (try dsimp only); (repeat' split) <;> simp
@[simp] theorem recomputeLadder_bss : (recomputeLadder s).bss = s.bss := by
  unfold recomputeLadder; (try dsimp only); (repeat' split) <;> simp
@[simp] theorem recomputeLadder_acu : (recomputeLadder s).acu = s.acu := by
  unfold recomputeLadder; (try dsimp only); (repeat' split) <;> simp
@[simp] theorem recomputeLadder_out : (recomputeLadder s).out = s.out := by
  unfold recomputeLadder; (try dsimp only); (repeat' split) <;> simp
@[simp] theorem recomputeLadder_pending : (recomputeLadder s).pending = s.pending := by
  unfold recomputeLadder; (try dsimp only); (repeat' split) <;> simp

/-! ### enterOnline -/

@[simp] theorem enterOnline_rtu : (enterOnline s).rtu = s.rtu := by
  unfold enterOnline; (try dsimp only); (repeat' split) <;> simp
@[simp] theorem enterOnline_slr : (enterOnline s).slr = s.slr := by
  unfold enterOnline; (try dsimp only); (repeat' split) <;> simp
@[simp] theorem enterOnline_las : (enterOnline s).las = s.las := by
  unfold enterOnline; (try dsimp only); (repeat' split) <;> simp
@[simp] theorem enterOnline_ldu : (enterOnline s).ldu = s.ldu := by
  unfold enterOnline; (try dsimp only); (repeat' split) <;> simp
@[simp] theorem enterOnline_bcr : (enterOnline s).bcr = s.bcr := by
  unfold enterOnline; (try dsimp only); (repeat' split) <;> simp
@[simp] theorem enterOnline_bss : (enterOnline s).bss = s.bss := by
  unfold enterOnline; (try dsimp only); (repeat' split) <;> simp
@[simp] theorem enterOnline_acu : (enterOnline s).acu = s.acu := by
  unfold enterOnline; (try dsimp only); (repeat' split) <;> simp
@[simp] theorem enterOnline_out : (enterOnline s).out = s.out := by
  unfold enterOnline; (try dsimp only); (repeat' split) <;> simp
@[simp] theorem enterOnline_pending : (enterOnline s).pending = s.pending := by
  unfold enterOnline; (try dsimp only); (repeat' split) <;> simp

/-! ### abortRun -/

@[simp] theorem abortRun_tle (c : AbortCause) : (abortRun c s).tle = s.tle := by
  unfold abortRun; (try dsimp only); (repeat' split) <;> simp
@[simp] theorem abortRun_rtu (c : AbortCause) : (abortRun c s).rtu = s.rtu := by
  unfold abortRun; (try dsimp only); (repeat' split) <;> simp
@[simp] theorem abortRun_slr (c : AbortCause) : (abortRun c s).slr = s.slr := by
  unfold abortRun; (try dsimp only); (repeat' split) <;> simp
@[simp] theorem abortRun_las (c : AbortCause) : (abortRun c s).las = s.las := by
  unfold abortRun; (try dsimp only); (repeat' split) <;> simp
@[simp] theorem abortRun_bcr (c : AbortCause) : (abortRun c s).bcr = s.bcr := by
  unfold abortRun; (try dsimp only); (repeat' split) <;> simp
@[simp] theorem abortRun_bss (c : AbortCause) : (abortRun c s).bss = s.bss := by
  unfold abortRun; (try dsimp only); (repeat' split) <;> simp
@[simp] theorem abortRun_acu (c : AbortCause) : (abortRun c s).acu = s.acu := by
  unfold abortRun; (try dsimp only); (repeat' split) <;> simp
@[simp] theorem abortRun_out (c : AbortCause) : (abortRun c s).out = s.out := by
  unfold abortRun; (try dsimp only); (repeat' split) <;> simp
@[simp] theorem abortRun_pending (c : AbortCause) : (abortRun c s).pending = s.pending := by
  unfold abortRun; (try dsimp only); (repeat' split) <;> simp

/-! ### formSeams -/

@[simp] theorem formSeams_tle : (formSeams s).tle = s.tle := by
  unfold formSeams; (try dsimp only); (repeat' split) <;> simp
@[simp] theorem formSeams_rtu : (formSeams s).rtu = s.rtu := by
  unfold formSeams; (try dsimp only); (repeat' split) <;> simp
@[simp] theorem formSeams_slr : (formSeams s).slr = s.slr := by
  unfold formSeams; (try dsimp only); (repeat' split) <;> simp
@[simp] theorem formSeams_las : (formSeams s).las = s.las := by
  unfold formSeams; (try dsimp only); (repeat' split) <;> simp
@[simp] theorem formSeams_bcr : (formSeams s).bcr = s.bcr := by
  unfold formSeams; (try dsimp only); (repeat' split) <;> simp
@[simp] theorem formSeams_bss : (formSeams s).bss = s.bss := by
  unfold formSeams; (try dsimp only); (repeat' split) <;> simp
@[simp] theorem formSeams_acu : (formSeams s).acu = s.acu := by
  unfold formSeams; (try dsimp only); (repeat' split) <;> simp
@[simp] theorem formSeams_lma : (formSeams s).lma = s.lma := by
  unfold formSeams; (try dsimp only); (repeat' split) <;> simp
@[simp] theorem formSeams_out : (formSeams s).out = s.out := by
  unfold formSeams; (try dsimp only); (repeat' split) <;> simp
@[simp] theorem formSeams_pending : (formSeams s).pending = s.pending := by
  unfold formSeams; (try dsimp only); (repeat' split) <;> simp

/-! ### clearSeamSums -/

@[simp] theorem clearSeamSums_tle : (clearSeamSums s).tle = s.tle := by
  unfold clearSeamSums; (try dsimp only); (repeat' split) <;> simp
@[simp] theorem clearSeamSums_rtu : (clearSeamSums s).rtu = s.rtu := by
  unfold clearSeamSums; (try dsimp only); (repeat' split) <;> simp
@[simp] theorem clearSeamSums_slr : (clearSeamSums s).slr = s.slr := by
  unfold clearSeamSums; (try dsimp only); (repeat' split) <;> simp
@[simp] theorem clearSeamSums_las : (clearSeamSums s).las = s.las := by
  unfold clearSeamSums; (try dsimp only); (repeat' split) <;> simp
@[simp] theorem clearSeamSums_bcr : (clearSeamSums s).bcr = s.bcr := by
  unfold clearSeamSums; (try dsimp only); (repeat' split) <;> simp
@[simp] theorem clearSeamSums_bss : (clearSeamSums s).bss = s.bss := by
  unfold clearSeamSums; (try dsimp only); (repeat' split) <;> simp
@[simp] theorem clearSeamSums_acu : (clearSeamSums s).acu = s.acu := by
  unfold clearSeamSums; (try dsimp only); (repeat' split) <;> simp
@[simp] theorem clearSeamSums_lma : (clearSeamSums s).lma = s.lma := by
  unfold clearSeamSums; (try dsimp only); (repeat' split) <;> simp
@[simp] theorem clearSeamSums_out : (clearSeamSums s).out = s.out := by
  unfold clearSeamSums; (try dsimp only); (repeat' split) <;> simp
@[simp] theorem clearSeamSums_pending : (clearSeamSums s).pending = s.pending := by
  unfold clearSeamSums; (try dsimp only); (repeat' split) <;> simp

/-! ### invalidateHeld -/

@[simp] theorem invalidateHeld_tle : (invalidateHeld s).tle = s.tle := by
  unfold invalidateHeld; (try dsimp only); (repeat' split) <;> simp
@[simp] theorem invalidateHeld_rtu : (invalidateHeld s).rtu = s.rtu := by
  unfold invalidateHeld; (try dsimp only); (repeat' split) <;> simp
@[simp] theorem invalidateHeld_slr : (invalidateHeld s).slr = s.slr := by
  unfold invalidateHeld; (try dsimp only); (repeat' split) <;> simp
@[simp] theorem invalidateHeld_las : (invalidateHeld s).las = s.las := by
  unfold invalidateHeld; (try dsimp only); (repeat' split) <;> simp
@[simp] theorem invalidateHeld_bcr : (invalidateHeld s).bcr = s.bcr := by
  unfold invalidateHeld; (try dsimp only); (repeat' split) <;> simp
@[simp] theorem invalidateHeld_bss : (invalidateHeld s).bss = s.bss := by
  unfold invalidateHeld; (try dsimp only); (repeat' split) <;> simp
@[simp] theorem invalidateHeld_acu : (invalidateHeld s).acu = s.acu := by
  unfold invalidateHeld; (try dsimp only); (repeat' split) <;> simp
@[simp] theorem invalidateHeld_lma : (invalidateHeld s).lma = s.lma := by
  unfold invalidateHeld; (try dsimp only); (repeat' split) <;> simp
@[simp] theorem invalidateHeld_out : (invalidateHeld s).out = s.out := by
  unfold invalidateHeld; (try dsimp only); (repeat' split) <;> simp
@[simp] theorem invalidateHeld_pending : (invalidateHeld s).pending = s.pending := by
  unfold invalidateHeld; (try dsimp only); (repeat' split) <;> simp

/-! ### makeFlip -/

@[simp] theorem makeFlip_rtu : (makeFlip s).rtu = s.rtu := by
  unfold makeFlip; (try dsimp only); (repeat' split) <;> simp
@[simp] theorem makeFlip_slr : (makeFlip s).slr = s.slr := by
  unfold makeFlip; (try dsimp only); (repeat' split) <;> simp
@[simp] theorem makeFlip_bcr : (makeFlip s).bcr = s.bcr := by
  unfold makeFlip; (try dsimp only); (repeat' split) <;> simp
@[simp] theorem makeFlip_bss : (makeFlip s).bss = s.bss := by
  unfold makeFlip; (try dsimp only); (repeat' split) <;> simp
@[simp] theorem makeFlip_acu : (makeFlip s).acu = s.acu := by
  unfold makeFlip; (try dsimp only); (repeat' split) <;> simp
@[simp] theorem makeFlip_out : (makeFlip s).out = s.out := by
  unfold makeFlip; (try dsimp only); (repeat' split) <;> simp
@[simp] theorem makeFlip_pending : (makeFlip s).pending = s.pending := by
  unfold makeFlip; (try dsimp only); (repeat' split) <;> simp

/-! ### finishCommit -/

@[simp] theorem finishCommit_rtu (t : Bank) : (finishCommit t s).rtu = s.rtu := by
  unfold finishCommit; (try dsimp only); (repeat' split) <;> simp
@[simp] theorem finishCommit_slr (t : Bank) : (finishCommit t s).slr = s.slr := by
  unfold finishCommit; (try dsimp only); (repeat' split) <;> simp
@[simp] theorem finishCommit_ldu (t : Bank) : (finishCommit t s).ldu = s.ldu := by
  unfold finishCommit; (try dsimp only); (repeat' split) <;> simp
@[simp] theorem finishCommit_bcr (t : Bank) : (finishCommit t s).bcr = s.bcr := by
  unfold finishCommit; (try dsimp only); (repeat' split) <;> simp
@[simp] theorem finishCommit_bss (t : Bank) : (finishCommit t s).bss = s.bss := by
  unfold finishCommit; (try dsimp only); (repeat' split) <;> simp
@[simp] theorem finishCommit_acu (t : Bank) : (finishCommit t s).acu = s.acu := by
  unfold finishCommit; (try dsimp only); (repeat' split) <;> simp
@[simp] theorem finishCommit_out (t : Bank) : (finishCommit t s).out = s.out := by
  unfold finishCommit; (try dsimp only); (repeat' split) <;> simp
@[simp] theorem finishCommit_pending (t : Bank) : (finishCommit t s).pending = s.pending := by
  unfold finishCommit; (try dsimp only); (repeat' split) <;> simp

/-! ### tryComplete -/

@[simp] theorem tryComplete_rtu : (tryComplete s).rtu = s.rtu := by
  unfold tryComplete; (try dsimp only); (repeat' split) <;> simp
@[simp] theorem tryComplete_slr : (tryComplete s).slr = s.slr := by
  unfold tryComplete; (try dsimp only); (repeat' split) <;> simp
@[simp] theorem tryComplete_ldu : (tryComplete s).ldu = s.ldu := by
  unfold tryComplete; (try dsimp only); (repeat' split) <;> simp
@[simp] theorem tryComplete_bcr : (tryComplete s).bcr = s.bcr := by
  unfold tryComplete; (try dsimp only); (repeat' split) <;> simp
@[simp] theorem tryComplete_bss : (tryComplete s).bss = s.bss := by
  unfold tryComplete; (try dsimp only); (repeat' split) <;> simp
@[simp] theorem tryComplete_acu : (tryComplete s).acu = s.acu := by
  unfold tryComplete; (try dsimp only); (repeat' split) <;> simp
@[simp] theorem tryComplete_out : (tryComplete s).out = s.out := by
  unfold tryComplete; (try dsimp only); (repeat' split) <;> simp
@[simp] theorem tryComplete_pending : (tryComplete s).pending = s.pending := by
  unfold tryComplete; (try dsimp only); (repeat' split) <;> simp

/-! ### completeNow -/

@[simp] theorem completeNow_rtu : (completeNow s).rtu = s.rtu := by
  unfold completeNow; (try dsimp only); (repeat' split) <;> simp
@[simp] theorem completeNow_slr : (completeNow s).slr = s.slr := by
  unfold completeNow; (try dsimp only); (repeat' split) <;> simp
@[simp] theorem completeNow_bcr : (completeNow s).bcr = s.bcr := by
  unfold completeNow; (try dsimp only); (repeat' split) <;> simp
@[simp] theorem completeNow_bss : (completeNow s).bss = s.bss := by
  unfold completeNow; (try dsimp only); (repeat' split) <;> simp
@[simp] theorem completeNow_acu : (completeNow s).acu = s.acu := by
  unfold completeNow; (try dsimp only); (repeat' split) <;> simp
@[simp] theorem completeNow_out : (completeNow s).out = s.out := by
  unfold completeNow; (try dsimp only); (repeat' split) <;> simp
@[simp] theorem completeNow_pending : (completeNow s).pending = s.pending := by
  unfold completeNow; (try dsimp only); (repeat' split) <;> simp

/-! ### resetBankPair -/

@[simp] theorem resetBankPair_tle : (resetBankPair s).tle = s.tle := by
  unfold resetBankPair; (try dsimp only); (repeat' split) <;> simp
@[simp] theorem resetBankPair_rtu : (resetBankPair s).rtu = s.rtu := by
  unfold resetBankPair; (try dsimp only); (repeat' split) <;> simp
@[simp] theorem resetBankPair_slr : (resetBankPair s).slr = s.slr := by
  unfold resetBankPair; (try dsimp only); (repeat' split) <;> simp
@[simp] theorem resetBankPair_ldu : (resetBankPair s).ldu = s.ldu := by
  unfold resetBankPair; (try dsimp only); (repeat' split) <;> simp
@[simp] theorem resetBankPair_bcr : (resetBankPair s).bcr = s.bcr := by
  unfold resetBankPair; (try dsimp only); (repeat' split) <;> simp
@[simp] theorem resetBankPair_bss : (resetBankPair s).bss = s.bss := by
  unfold resetBankPair; (try dsimp only); (repeat' split) <;> simp
@[simp] theorem resetBankPair_acu : (resetBankPair s).acu = s.acu := by
  unfold resetBankPair; (try dsimp only); (repeat' split) <;> simp
@[simp] theorem resetBankPair_lma : (resetBankPair s).lma = s.lma := by
  unfold resetBankPair; (try dsimp only); (repeat' split) <;> simp
@[simp] theorem resetBankPair_out : (resetBankPair s).out = s.out := by
  unfold resetBankPair; (try dsimp only); (repeat' split) <;> simp
@[simp] theorem resetBankPair_pending : (resetBankPair s).pending = s.pending := by
  unfold resetBankPair; (try dsimp only); (repeat' split) <;> simp

/-! ### freeRecords -/

@[simp] theorem freeRecords_tle : (freeRecords s).tle = s.tle := by
  unfold freeRecords; (try dsimp only); (repeat' split) <;> simp
@[simp] theorem freeRecords_rtu : (freeRecords s).rtu = s.rtu := by
  unfold freeRecords; (try dsimp only); (repeat' split) <;> simp
@[simp] theorem freeRecords_slr : (freeRecords s).slr = s.slr := by
  unfold freeRecords; (try dsimp only); (repeat' split) <;> simp
@[simp] theorem freeRecords_ldu : (freeRecords s).ldu = s.ldu := by
  unfold freeRecords; (try dsimp only); (repeat' split) <;> simp
@[simp] theorem freeRecords_bcr : (freeRecords s).bcr = s.bcr := by
  unfold freeRecords; (try dsimp only); (repeat' split) <;> simp
@[simp] theorem freeRecords_bss : (freeRecords s).bss = s.bss := by
  unfold freeRecords; (try dsimp only); (repeat' split) <;> simp
@[simp] theorem freeRecords_acu : (freeRecords s).acu = s.acu := by
  unfold freeRecords; (try dsimp only); (repeat' split) <;> simp
@[simp] theorem freeRecords_lma : (freeRecords s).lma = s.lma := by
  unfold freeRecords; (try dsimp only); (repeat' split) <;> simp
@[simp] theorem freeRecords_out : (freeRecords s).out = s.out := by
  unfold freeRecords; (try dsimp only); (repeat' split) <;> simp
@[simp] theorem freeRecords_pending : (freeRecords s).pending = s.pending := by
  unfold freeRecords; (try dsimp only); (repeat' split) <;> simp

/-! ### flush -/

@[simp] theorem flush_rtu : (flush s).rtu = s.rtu := by
  unfold flush; (try dsimp only); (repeat' split) <;> simp
@[simp] theorem flush_slr : (flush s).slr = s.slr := by
  unfold flush; (try dsimp only); (repeat' split) <;> simp
@[simp] theorem flush_bcr : (flush s).bcr = s.bcr := by
  unfold flush; (try dsimp only); (repeat' split) <;> simp
@[simp] theorem flush_bss : (flush s).bss = s.bss := by
  unfold flush; (try dsimp only); (repeat' split) <;> simp
@[simp] theorem flush_acu : (flush s).acu = s.acu := by
  unfold flush; (try dsimp only); (repeat' split) <;> simp
@[simp] theorem flush_out : (flush s).out = s.out := by
  unfold flush; (try dsimp only); (repeat' split) <;> simp
@[simp] theorem flush_pending : (flush s).pending = s.pending := by
  unfold flush; (try dsimp only); (repeat' split) <;> simp

/-! ### handTally -/

@[simp] theorem handTally_tle (t : Tally) : (handTally t s).tle = s.tle := by
  unfold handTally; (try dsimp only); (repeat' split) <;> simp
@[simp] theorem handTally_rtu (t : Tally) : (handTally t s).rtu = s.rtu := by
  unfold handTally; (try dsimp only); (repeat' split) <;> simp
@[simp] theorem handTally_slr (t : Tally) : (handTally t s).slr = s.slr := by
  unfold handTally; (try dsimp only); (repeat' split) <;> simp
@[simp] theorem handTally_las (t : Tally) : (handTally t s).las = s.las := by
  unfold handTally; (try dsimp only); (repeat' split) <;> simp
@[simp] theorem handTally_ldu (t : Tally) : (handTally t s).ldu = s.ldu := by
  unfold handTally; (try dsimp only); (repeat' split) <;> simp
@[simp] theorem handTally_bcr (t : Tally) : (handTally t s).bcr = s.bcr := by
  unfold handTally; (try dsimp only); (repeat' split) <;> simp
@[simp] theorem handTally_bss (t : Tally) : (handTally t s).bss = s.bss := by
  unfold handTally; (try dsimp only); (repeat' split) <;> simp
@[simp] theorem handTally_lma (t : Tally) : (handTally t s).lma = s.lma := by
  unfold handTally; (try dsimp only); (repeat' split) <;> simp
@[simp] theorem handTally_out (t : Tally) : (handTally t s).out = s.out := by
  unfold handTally; (try dsimp only); (repeat' split) <;> simp
@[simp] theorem handTally_pending (t : Tally) : (handTally t s).pending = s.pending := by
  unfold handTally; (try dsimp only); (repeat' split) <;> simp

/-! ### moveResult -/

@[simp] theorem moveResult_tle (i : Fin 4) : (moveResult i s).tle = s.tle := by
  unfold moveResult; (try dsimp only); (repeat' split) <;> simp
@[simp] theorem moveResult_rtu (i : Fin 4) : (moveResult i s).rtu = s.rtu := by
  unfold moveResult; (try dsimp only); (repeat' split) <;> simp
@[simp] theorem moveResult_slr (i : Fin 4) : (moveResult i s).slr = s.slr := by
  unfold moveResult; (try dsimp only); (repeat' split) <;> simp
@[simp] theorem moveResult_las (i : Fin 4) : (moveResult i s).las = s.las := by
  unfold moveResult; (try dsimp only); (repeat' split) <;> simp
@[simp] theorem moveResult_ldu (i : Fin 4) : (moveResult i s).ldu = s.ldu := by
  unfold moveResult; (try dsimp only); (repeat' split) <;> simp
@[simp] theorem moveResult_bss (i : Fin 4) : (moveResult i s).bss = s.bss := by
  unfold moveResult; (try dsimp only); (repeat' split) <;> simp
@[simp] theorem moveResult_acu (i : Fin 4) : (moveResult i s).acu = s.acu := by
  unfold moveResult; (try dsimp only); (repeat' split) <;> simp
@[simp] theorem moveResult_out (i : Fin 4) : (moveResult i s).out = s.out := by
  unfold moveResult; (try dsimp only); (repeat' split) <;> simp
@[simp] theorem moveResult_pending (i : Fin 4) : (moveResult i s).pending = s.pending := by
  unfold moveResult; (try dsimp only); (repeat' split) <;> simp

/-! ### moveResults -/

@[simp] theorem moveResults_tle (i : Fin 4) (n : Nat) : (moveResults i n s).tle = s.tle := by
  induction n generalizing s with
  | zero => simp [moveResults]
  | succ k ih => simp only [moveResults]; (repeat' split) <;> simp [ih]
@[simp] theorem moveResults_rtu (i : Fin 4) (n : Nat) : (moveResults i n s).rtu = s.rtu := by
  induction n generalizing s with
  | zero => simp [moveResults]
  | succ k ih => simp only [moveResults]; (repeat' split) <;> simp [ih]
@[simp] theorem moveResults_slr (i : Fin 4) (n : Nat) : (moveResults i n s).slr = s.slr := by
  induction n generalizing s with
  | zero => simp [moveResults]
  | succ k ih => simp only [moveResults]; (repeat' split) <;> simp [ih]
@[simp] theorem moveResults_las (i : Fin 4) (n : Nat) : (moveResults i n s).las = s.las := by
  induction n generalizing s with
  | zero => simp [moveResults]
  | succ k ih => simp only [moveResults]; (repeat' split) <;> simp [ih]
@[simp] theorem moveResults_ldu (i : Fin 4) (n : Nat) : (moveResults i n s).ldu = s.ldu := by
  induction n generalizing s with
  | zero => simp [moveResults]
  | succ k ih => simp only [moveResults]; (repeat' split) <;> simp [ih]
@[simp] theorem moveResults_bss (i : Fin 4) (n : Nat) : (moveResults i n s).bss = s.bss := by
  induction n generalizing s with
  | zero => simp [moveResults]
  | succ k ih => simp only [moveResults]; (repeat' split) <;> simp [ih]
@[simp] theorem moveResults_acu (i : Fin 4) (n : Nat) : (moveResults i n s).acu = s.acu := by
  induction n generalizing s with
  | zero => simp [moveResults]
  | succ k ih => simp only [moveResults]; (repeat' split) <;> simp [ih]
@[simp] theorem moveResults_out (i : Fin 4) (n : Nat) : (moveResults i n s).out = s.out := by
  induction n generalizing s with
  | zero => simp [moveResults]
  | succ k ih => simp only [moveResults]; (repeat' split) <;> simp [ih]
@[simp] theorem moveResults_pending (i : Fin 4) (n : Nat) : (moveResults i n s).pending = s.pending := by
  induction n generalizing s with
  | zero => simp [moveResults]
  | succ k ih => simp only [moveResults]; (repeat' split) <;> simp [ih]

/-! ### putInFlight -/

@[simp] theorem putInFlight_tle (i : Fin 4) : (putInFlight i s).tle = s.tle := by
  unfold putInFlight; (try dsimp only); (repeat' split) <;> simp
@[simp] theorem putInFlight_rtu (i : Fin 4) : (putInFlight i s).rtu = s.rtu := by
  unfold putInFlight; (try dsimp only); (repeat' split) <;> simp
@[simp] theorem putInFlight_slr (i : Fin 4) : (putInFlight i s).slr = s.slr := by
  unfold putInFlight; (try dsimp only); (repeat' split) <;> simp
@[simp] theorem putInFlight_las (i : Fin 4) : (putInFlight i s).las = s.las := by
  unfold putInFlight; (try dsimp only); (repeat' split) <;> simp
@[simp] theorem putInFlight_ldu (i : Fin 4) : (putInFlight i s).ldu = s.ldu := by
  unfold putInFlight; (try dsimp only); (repeat' split) <;> simp
@[simp] theorem putInFlight_bss (i : Fin 4) : (putInFlight i s).bss = s.bss := by
  unfold putInFlight; (try dsimp only); (repeat' split) <;> simp
@[simp] theorem putInFlight_acu (i : Fin 4) : (putInFlight i s).acu = s.acu := by
  unfold putInFlight; (try dsimp only); (repeat' split) <;> simp
@[simp] theorem putInFlight_lma (i : Fin 4) : (putInFlight i s).lma = s.lma := by
  unfold putInFlight; (try dsimp only); (repeat' split) <;> simp
@[simp] theorem putInFlight_pending (i : Fin 4) : (putInFlight i s).pending = s.pending := by
  unfold putInFlight; (try dsimp only); (repeat' split) <;> simp

/-! ### deliverLane -/

@[simp] theorem deliverLane_tle (i : Fin 4) : (deliverLane i s).tle = s.tle := by
  unfold deliverLane; (try dsimp only); (repeat' split) <;> simp
@[simp] theorem deliverLane_rtu (i : Fin 4) : (deliverLane i s).rtu = s.rtu := by
  unfold deliverLane; (try dsimp only); (repeat' split) <;> simp
@[simp] theorem deliverLane_slr (i : Fin 4) : (deliverLane i s).slr = s.slr := by
  unfold deliverLane; (try dsimp only); (repeat' split) <;> simp
@[simp] theorem deliverLane_las (i : Fin 4) : (deliverLane i s).las = s.las := by
  unfold deliverLane; (try dsimp only); (repeat' split) <;> simp
@[simp] theorem deliverLane_ldu (i : Fin 4) : (deliverLane i s).ldu = s.ldu := by
  unfold deliverLane; (try dsimp only); (repeat' split) <;> simp
@[simp] theorem deliverLane_bss (i : Fin 4) : (deliverLane i s).bss = s.bss := by
  unfold deliverLane; (try dsimp only); (repeat' split) <;> simp
@[simp] theorem deliverLane_acu (i : Fin 4) : (deliverLane i s).acu = s.acu := by
  unfold deliverLane; (try dsimp only); (repeat' split) <;> simp
@[simp] theorem deliverLane_pending (i : Fin 4) : (deliverLane i s).pending = s.pending := by
  unfold deliverLane; (try dsimp only); (repeat' split) <;> simp

/-! ### deliverLanes -/

@[simp] theorem deliverLanes_tle : (deliverLanes s).tle = s.tle := by
  unfold deliverLanes
  rw [foldl_keep (fun s => s.tle) _ (by intros; simp)]
@[simp] theorem deliverLanes_rtu : (deliverLanes s).rtu = s.rtu := by
  unfold deliverLanes
  rw [foldl_keep (fun s => s.rtu) _ (by intros; simp)]
@[simp] theorem deliverLanes_slr : (deliverLanes s).slr = s.slr := by
  unfold deliverLanes
  rw [foldl_keep (fun s => s.slr) _ (by intros; simp)]
@[simp] theorem deliverLanes_las : (deliverLanes s).las = s.las := by
  unfold deliverLanes
  rw [foldl_keep (fun s => s.las) _ (by intros; simp)]
@[simp] theorem deliverLanes_ldu : (deliverLanes s).ldu = s.ldu := by
  unfold deliverLanes
  rw [foldl_keep (fun s => s.ldu) _ (by intros; simp)]
@[simp] theorem deliverLanes_bss : (deliverLanes s).bss = s.bss := by
  unfold deliverLanes
  rw [foldl_keep (fun s => s.bss) _ (by intros; simp)]
@[simp] theorem deliverLanes_acu : (deliverLanes s).acu = s.acu := by
  unfold deliverLanes
  rw [foldl_keep (fun s => s.acu) _ (by intros; simp)]
@[simp] theorem deliverLanes_pending : (deliverLanes s).pending = s.pending := by
  unfold deliverLanes
  rw [foldl_keep (fun s => s.pending) _ (by intros; simp)]

/-! ### settle -/

@[simp] theorem settle_tle (b : BitVec 21) : (settle b s).tle = s.tle := by
  unfold settle; (try dsimp only); (repeat' split) <;> simp
@[simp] theorem settle_rtu (b : BitVec 21) : (settle b s).rtu = s.rtu := by
  unfold settle; (try dsimp only); (repeat' split) <;> simp
@[simp] theorem settle_slr (b : BitVec 21) : (settle b s).slr = s.slr := by
  unfold settle; (try dsimp only); (repeat' split) <;> simp
@[simp] theorem settle_las (b : BitVec 21) : (settle b s).las = s.las := by
  unfold settle; (try dsimp only); (repeat' split) <;> simp
@[simp] theorem settle_ldu (b : BitVec 21) : (settle b s).ldu = s.ldu := by
  unfold settle; (try dsimp only); (repeat' split) <;> simp
@[simp] theorem settle_bss (b : BitVec 21) : (settle b s).bss = s.bss := by
  unfold settle; (try dsimp only); (repeat' split) <;> simp
@[simp] theorem settle_acu (b : BitVec 21) : (settle b s).acu = s.acu := by
  unfold settle; (try dsimp only); (repeat' split) <;> simp
@[simp] theorem settle_pending (b : BitVec 21) : (settle b s).pending = s.pending := by
  unfold settle; (try dsimp only); (repeat' split) <;> simp

/-! ### discardLane -/

@[simp] theorem discardLane_tle (i : Fin 4) : (discardLane i s).tle = s.tle := by
  unfold discardLane; (try dsimp only); (repeat' split) <;> simp
@[simp] theorem discardLane_rtu (i : Fin 4) : (discardLane i s).rtu = s.rtu := by
  unfold discardLane; (try dsimp only); (repeat' split) <;> simp
@[simp] theorem discardLane_slr (i : Fin 4) : (discardLane i s).slr = s.slr := by
  unfold discardLane; (try dsimp only); (repeat' split) <;> simp
@[simp] theorem discardLane_las (i : Fin 4) : (discardLane i s).las = s.las := by
  unfold discardLane; (try dsimp only); (repeat' split) <;> simp
@[simp] theorem discardLane_ldu (i : Fin 4) : (discardLane i s).ldu = s.ldu := by
  unfold discardLane; (try dsimp only); (repeat' split) <;> simp
@[simp] theorem discardLane_bss (i : Fin 4) : (discardLane i s).bss = s.bss := by
  unfold discardLane; (try dsimp only); (repeat' split) <;> simp
@[simp] theorem discardLane_acu (i : Fin 4) : (discardLane i s).acu = s.acu := by
  unfold discardLane; (try dsimp only); (repeat' split) <;> simp
@[simp] theorem discardLane_lma (i : Fin 4) : (discardLane i s).lma = s.lma := by
  unfold discardLane; (try dsimp only); (repeat' split) <;> simp
@[simp] theorem discardLane_out (i : Fin 4) : (discardLane i s).out = s.out := by
  unfold discardLane; (try dsimp only); (repeat' split) <;> simp
@[simp] theorem discardLane_pending (i : Fin 4) : (discardLane i s).pending = s.pending := by
  unfold discardLane; (try dsimp only); (repeat' split) <;> simp

/-! ### leaveUp -/

@[simp] theorem leaveUp_tle (i : Fin 4) : (leaveUp i s).tle = s.tle := by
  unfold leaveUp; (try dsimp only); (repeat' split) <;> simp
@[simp] theorem leaveUp_rtu (i : Fin 4) : (leaveUp i s).rtu = s.rtu := by
  unfold leaveUp; (try dsimp only); (repeat' split) <;> simp
@[simp] theorem leaveUp_slr (i : Fin 4) : (leaveUp i s).slr = s.slr := by
  unfold leaveUp; (try dsimp only); (repeat' split) <;> simp
@[simp] theorem leaveUp_las (i : Fin 4) : (leaveUp i s).las = s.las := by
  unfold leaveUp; (try dsimp only); (repeat' split) <;> simp
@[simp] theorem leaveUp_ldu (i : Fin 4) : (leaveUp i s).ldu = s.ldu := by
  unfold leaveUp; (try dsimp only); (repeat' split) <;> simp
@[simp] theorem leaveUp_bss (i : Fin 4) : (leaveUp i s).bss = s.bss := by
  unfold leaveUp; (try dsimp only); (repeat' split) <;> simp
@[simp] theorem leaveUp_acu (i : Fin 4) : (leaveUp i s).acu = s.acu := by
  unfold leaveUp; (try dsimp only); (repeat' split) <;> simp
@[simp] theorem leaveUp_lma (i : Fin 4) : (leaveUp i s).lma = s.lma := by
  unfold leaveUp; (try dsimp only); (repeat' split) <;> simp
@[simp] theorem leaveUp_pending (i : Fin 4) : (leaveUp i s).pending = s.pending := by
  unfold leaveUp; (try dsimp only); (repeat' split) <;> simp

/-! ### changeLane -/

@[simp] theorem changeLane_tle (i : Fin 4) (st : LaneState) : (changeLane i st s).tle = s.tle := by
  unfold changeLane; (try dsimp only); (repeat' split) <;> simp
@[simp] theorem changeLane_rtu (i : Fin 4) (st : LaneState) : (changeLane i st s).rtu = s.rtu := by
  unfold changeLane; (try dsimp only); (repeat' split) <;> simp
@[simp] theorem changeLane_las (i : Fin 4) (st : LaneState) : (changeLane i st s).las = s.las := by
  unfold changeLane; (try dsimp only); (repeat' split) <;> simp
@[simp] theorem changeLane_ldu (i : Fin 4) (st : LaneState) : (changeLane i st s).ldu = s.ldu := by
  unfold changeLane; (try dsimp only); (repeat' split) <;> simp
@[simp] theorem changeLane_bss (i : Fin 4) (st : LaneState) : (changeLane i st s).bss = s.bss := by
  unfold changeLane; (try dsimp only); (repeat' split) <;> simp
@[simp] theorem changeLane_acu (i : Fin 4) (st : LaneState) : (changeLane i st s).acu = s.acu := by
  unfold changeLane; (try dsimp only); (repeat' split) <;> simp
@[simp] theorem changeLane_pending (i : Fin 4) (st : LaneState) : (changeLane i st s).pending = s.pending := by
  unfold changeLane; (try dsimp only); (repeat' split) <;> simp

/-! ### beginAlignment -/

@[simp] theorem beginAlignment_tle (i : Fin 4) : (beginAlignment i s).tle = s.tle := by
  unfold beginAlignment; (try dsimp only); (repeat' split) <;> simp
@[simp] theorem beginAlignment_rtu (i : Fin 4) : (beginAlignment i s).rtu = s.rtu := by
  unfold beginAlignment; (try dsimp only); (repeat' split) <;> simp
@[simp] theorem beginAlignment_las (i : Fin 4) : (beginAlignment i s).las = s.las := by
  unfold beginAlignment; (try dsimp only); (repeat' split) <;> simp
@[simp] theorem beginAlignment_ldu (i : Fin 4) : (beginAlignment i s).ldu = s.ldu := by
  unfold beginAlignment; (try dsimp only); (repeat' split) <;> simp
@[simp] theorem beginAlignment_bcr (i : Fin 4) : (beginAlignment i s).bcr = s.bcr := by
  unfold beginAlignment; (try dsimp only); (repeat' split) <;> simp
@[simp] theorem beginAlignment_bss (i : Fin 4) : (beginAlignment i s).bss = s.bss := by
  unfold beginAlignment; (try dsimp only); (repeat' split) <;> simp
@[simp] theorem beginAlignment_acu (i : Fin 4) : (beginAlignment i s).acu = s.acu := by
  unfold beginAlignment; (try dsimp only); (repeat' split) <;> simp
@[simp] theorem beginAlignment_lma (i : Fin 4) : (beginAlignment i s).lma = s.lma := by
  unfold beginAlignment; (try dsimp only); (repeat' split) <;> simp
@[simp] theorem beginAlignment_out (i : Fin 4) : (beginAlignment i s).out = s.out := by
  unfold beginAlignment; (try dsimp only); (repeat' split) <;> simp
@[simp] theorem beginAlignment_pending (i : Fin 4) : (beginAlignment i s).pending = s.pending := by
  unfold beginAlignment; (try dsimp only); (repeat' split) <;> simp

/-! ### laneSupplyGood -/

@[simp] theorem laneSupplyGood_tle (i : Fin 4) : (laneSupplyGood i s).tle = s.tle := by
  unfold laneSupplyGood; (try dsimp only); (repeat' split) <;> simp
@[simp] theorem laneSupplyGood_rtu (i : Fin 4) : (laneSupplyGood i s).rtu = s.rtu := by
  unfold laneSupplyGood; (try dsimp only); (repeat' split) <;> simp
@[simp] theorem laneSupplyGood_las (i : Fin 4) : (laneSupplyGood i s).las = s.las := by
  unfold laneSupplyGood; (try dsimp only); (repeat' split) <;> simp
@[simp] theorem laneSupplyGood_ldu (i : Fin 4) : (laneSupplyGood i s).ldu = s.ldu := by
  unfold laneSupplyGood; (try dsimp only); (repeat' split) <;> simp
@[simp] theorem laneSupplyGood_bss (i : Fin 4) : (laneSupplyGood i s).bss = s.bss := by
  unfold laneSupplyGood; (try dsimp only); (repeat' split) <;> simp
@[simp] theorem laneSupplyGood_acu (i : Fin 4) : (laneSupplyGood i s).acu = s.acu := by
  unfold laneSupplyGood; (try dsimp only); (repeat' split) <;> simp
@[simp] theorem laneSupplyGood_pending (i : Fin 4) : (laneSupplyGood i s).pending = s.pending := by
  unfold laneSupplyGood; (try dsimp only); (repeat' split) <;> simp

/-! ### laneSupplyLost -/

@[simp] theorem laneSupplyLost_tle (i : Fin 4) : (laneSupplyLost i s).tle = s.tle := by
  unfold laneSupplyLost; (try dsimp only); (repeat' split) <;> simp
@[simp] theorem laneSupplyLost_rtu (i : Fin 4) : (laneSupplyLost i s).rtu = s.rtu := by
  unfold laneSupplyLost; (try dsimp only); (repeat' split) <;> simp
@[simp] theorem laneSupplyLost_las (i : Fin 4) : (laneSupplyLost i s).las = s.las := by
  unfold laneSupplyLost; (try dsimp only); (repeat' split) <;> simp
@[simp] theorem laneSupplyLost_ldu (i : Fin 4) : (laneSupplyLost i s).ldu = s.ldu := by
  unfold laneSupplyLost; (try dsimp only); (repeat' split) <;> simp
@[simp] theorem laneSupplyLost_bss (i : Fin 4) : (laneSupplyLost i s).bss = s.bss := by
  unfold laneSupplyLost; (try dsimp only); (repeat' split) <;> simp
@[simp] theorem laneSupplyLost_acu (i : Fin 4) : (laneSupplyLost i s).acu = s.acu := by
  unfold laneSupplyLost; (try dsimp only); (repeat' split) <;> simp
@[simp] theorem laneSupplyLost_pending (i : Fin 4) : (laneSupplyLost i s).pending = s.pending := by
  unfold laneSupplyLost; (try dsimp only); (repeat' split) <;> simp

end Sys2Proof.Machine
end

