-- ==== Sys2Proof/Laws/Agent.lean ====
section
/-! SUPPORT. The Link Management Agent: flags and counters, the notice, and what a message does that finds the agent at
rest. -/

namespace Sys2Proof.Machine

/-! ## Flags, counters, notices -/

/-- No flag has risen since the flag set as it is. -/
@[simp] theorem risen_self (l : Lma) : l.risen l.flags = 0 := by
  unfold Lma.risen
  ext i
  simp

/-- An event that raises nothing places no notice. -/
@[simp] theorem placeNotice_self (l : Lma) : l.placeNotice l.flags = l := by
  unfold Lma.placeNotice; simp

/-- An event that leaves the flags as they were places no notice. -/
theorem placeNotice_of_flags_eq (l : Lma) (b : BitVec 21) (h : l.flags = b) : l.placeNotice b = l := by
  subst h; simp

/-- A notice is a message more in Egress, a set mark, or nothing (11, R174). -/
theorem placeNotice_cases (l : Lma) (b : BitVec 21) :
    l.placeNotice b = l ∨ (l.room = true ∧ l.placeNotice b = l.place (.alertNotice l.flags)) ∨
      (l.room = false ∧ l.placeNotice b = { l with noticePending := true }) := by
  unfold Lma.placeNotice
  split
  · exact .inl rfl
  · split
    · exact .inl rfl
    · split
      · exact .inr (.inl ⟨by assumption, rfl⟩)
      · exact .inr (.inr ⟨by simp_all, rfl⟩)

@[simp] theorem placeNotice_flags (l : Lma) (b : BitVec 21) : (l.placeNotice b).flags = l.flags := by
  unfold Lma.placeNotice; (repeat' split) <;> rfl

@[simp] theorem placeNotice_masks (l : Lma) (b : BitVec 21) : (l.placeNotice b).masks = l.masks := by
  unfold Lma.placeNotice; (repeat' split) <;> rfl

@[simp] theorem placeNotice_counters (l : Lma) (b : BitVec 21) : (l.placeNotice b).counters = l.counters := by
  unfold Lma.placeNotice; (repeat' split) <;> rfl

@[simp] theorem placeNotice_ingress (l : Lma) (b : BitVec 21) : (l.placeNotice b).ingress = l.ingress := by
  unfold Lma.placeNotice; (repeat' split) <;> rfl

@[simp] theorem placeNotice_rotation (l : Lma) (b : BitVec 21) : (l.placeNotice b).rotation = l.rotation := by
  unfold Lma.placeNotice; (repeat' split) <;> rfl

/-- A counter after counting is the sum, or 65535 (11, R175). -/
theorem counter_addCount (l : Lma) (c : Counter) (k : Nat) :
    (l.addCount c k).counter c = saturate (l.counter c) k := by
  simp [Lma.counter, Lma.addCount]

/-- Counting leaves every other counter as it was (11, R175). -/
theorem counter_addCount_of_ne (l : Lma) (c d : Counter) (k : Nat) (h : c.index ≠ d.index) :
    (l.addCount c k).counter d = l.counter d := by
  have h' : c.index.val ≠ d.index.val := fun e => h (Fin.ext e)
  simp [Lma.counter, Lma.addCount, h']

/-! ## Relay results -/

/-- A lane without a DECIDED head delivers nothing (07, R127). -/
theorem deliverLane_of_not_decided (i : Fin 4) (s : State) (h : s.bcr[i].headDecided = false) : deliverLane i s = s := by
  unfold deliverLane
  rw [h]
  rfl

/-- With no DECIDED head on any lane nothing is delivered (07, R127). -/
theorem deliverLanes_of_none_decided (s : State) (h : ∀ i : Fin 4, s.bcr[i].headDecided = false) : deliverLanes s = s := by
  simp only [deliverLanes, rotationOrder, List.foldl]
  rw [deliverLane_of_not_decided _ s (h _), deliverLane_of_not_decided _ s (h _), deliverLane_of_not_decided _ s (h _),
    deliverLane_of_not_decided _ s (h _)]

/-- An event that decides no request ends with its notice alone. -/
theorem settle_of_none_decided (b : BitVec 21) (s : State) (h : ∀ i : Fin 4, s.bcr[i].headDecided = false) :
    settle b s = s.placeNotice b := by
  unfold settle
  exact deliverLanes_of_none_decided _ (by simpa using h)

/-! ## Messages -/

/-- A message that finds the agent at rest is performed at once (10, R160). -/
theorem offer_of_rest (s : State) (m : Message) (h : AtRest s) (hm : m.length.toNat ≤ 240) : offer s m = perform m s := by
  obtain ⟨h1, h2, -⟩ := h
  have e : ({ s with lma := { s.lma with ingress := [] } } : State) = s := by
    cases s; simp_all; cases ‹Lma›; simp_all
  unfold offer
  simp [h1, Nat.not_lt.mpr hm, ingressSize, runLma, lmaRun, Lma.room, egressSize, h2]
  simp [State.mapLma, e]

/-- A message longer than its cell's body area is discarded and counted (10, R158). -/
theorem offer_of_bad_length (s : State) (m : Message) (h : 240 < m.length.toNat) : offer s m = mgmtLost .mgmtBad s := by
  unfold offer; simp [h]

/-- A message offered to a full Ingress is discarded and counted (10, R159). -/
theorem offer_of_full (s : State) (m : Message) (hm : m.length.toNat ≤ 240) (h : 8 ≤ s.lma.ingress.length) :
    offer s m = mgmtLost .mgmtOverflow s := by
  unfold offer; simp [Nat.not_lt.mpr hm, ingressSize, h]

/-- A message whose action decides no relay request: its answer, its effect, and the notice its effect gives rise to
(10, R160). -/
theorem perform_of_none_decided (m : Message) (s : State)
    (h : ∀ i : Fin 4, (effectOf m (s.mapLma (Lma.place (answerOf m s)))).bcr[i].headDecided = false) :
    perform m s = (effectOf m (s.mapLma (Lma.place (answerOf m s)))).placeNotice s.lma.flags := by
  unfold perform relayEvent
  rw [settle_of_none_decided _ _ h]
  rfl

end Sys2Proof.Machine
end

