-- ==== Sys2Proof/Laws/Fill.lean ====
section
/-! SUPPORT. What the part sends without an event, and that it does nothing else. -/

namespace Sys2Proof.Machine

variable (s : State)

/-- What the cable carries without an event: the training block, in TRAINING (12, R178). -/
def cableFill : List Output := (s.trainingBlock.map Output.trainingBlock).toList

/-- What a downlink carries without an event: an idle word, unless the lane is OFF (03, R46, R48). -/
def downFill (i : Fin 4) : List Output :=
  if s.slr.lanes[i].state.sends then [.idleWord i downIdle] else []

theorem sends_iff (x : LaneState) : x.sends = true ↔ x ≠ .off := by cases x <;> decide

theorem fillDownlink_eq (i : Fin 4) : fillDownlink i s = { s with out := s.out ++ downFill s i } := by
  unfold fillDownlink downFill; split <;> simp [State.emit]

theorem fillCable_eq : fillCable s = { s with out := s.out ++ cableFill s } := by
  unfold fillCable cableFill; cases h : s.trainingBlock <;> simp [State.emit]

/-- All that the part does without an event. -/
theorem idlePart_eq :
    idlePart s =
      { s with out := cableFill s ++ downFill s 0 ++ downFill s 1 ++ downFill s 2 ++ downFill s 3 } := by
  simp only [idlePart, fillDownlink_eq, fillCable_eq, downFill, List.nil_append]; rfl

end Sys2Proof.Machine
end

