-- ==== Sys2Proof/Laws/Ticks.lean ====
section
/-! SUPPORT. What the operations of the departure and the head line tick leave as they were, block by block: one lemma for each operation and block. -/

namespace Sys2Proof.Machine

variable (s : State)

/-! ### completeRun -/

@[simp] theorem completeRun_tle : (completeRun s).tle = s.tle := by
  unfold completeRun; (try dsimp only); (repeat' split) <;> simp
@[simp] theorem completeRun_rtu : (completeRun s).rtu = s.rtu := by
  unfold completeRun; (try dsimp only); (repeat' split) <;> simp
@[simp] theorem completeRun_slr : (completeRun s).slr = s.slr := by
  unfold completeRun; (try dsimp only); (repeat' split) <;> simp
@[simp] theorem completeRun_las : (completeRun s).las = s.las := by
  unfold completeRun; (try dsimp only); (repeat' split) <;> simp
@[simp] theorem completeRun_bcr : (completeRun s).bcr = s.bcr := by
  unfold completeRun; (try dsimp only); (repeat' split) <;> simp
@[simp] theorem completeRun_bss : (completeRun s).bss = s.bss := by
  unfold completeRun; (try dsimp only); (repeat' split) <;> simp
@[simp] theorem completeRun_acu : (completeRun s).acu = s.acu := by
  unfold completeRun; (try dsimp only); (repeat' split) <;> simp
@[simp] theorem completeRun_out : (completeRun s).out = s.out := by
  unfold completeRun; (try dsimp only); (repeat' split) <;> simp
@[simp] theorem completeRun_pending : (completeRun s).pending = s.pending := by
  unfold completeRun; (try dsimp only); (repeat' split) <;> simp

/-! ### feedRun -/

@[simp] theorem feedRun_tle (ds : List Departing) : (feedRun ds s).tle = s.tle := by
  unfold feedRun; (try dsimp only); (repeat' split) <;> simp
@[simp] theorem feedRun_rtu (ds : List Departing) : (feedRun ds s).rtu = s.rtu := by
  unfold feedRun; (try dsimp only); (repeat' split) <;> simp
@[simp] theorem feedRun_slr (ds : List Departing) : (feedRun ds s).slr = s.slr := by
  unfold feedRun; (try dsimp only); (repeat' split) <;> simp
@[simp] theorem feedRun_las (ds : List Departing) : (feedRun ds s).las = s.las := by
  unfold feedRun; (try dsimp only); (repeat' split) <;> simp
@[simp] theorem feedRun_bcr (ds : List Departing) : (feedRun ds s).bcr = s.bcr := by
  unfold feedRun; (try dsimp only); (repeat' split) <;> simp
@[simp] theorem feedRun_bss (ds : List Departing) : (feedRun ds s).bss = s.bss := by
  unfold feedRun; (try dsimp only); (repeat' split) <;> simp
@[simp] theorem feedRun_acu (ds : List Departing) : (feedRun ds s).acu = s.acu := by
  unfold feedRun; (try dsimp only); (repeat' split) <;> simp
@[simp] theorem feedRun_out (ds : List Departing) : (feedRun ds s).out = s.out := by
  unfold feedRun; (try dsimp only); (repeat' split) <;> simp
@[simp] theorem feedRun_pending (ds : List Departing) : (feedRun ds s).pending = s.pending := by
  unfold feedRun; (try dsimp only); (repeat' split) <;> simp

/-! ### feedSeams -/

@[simp] theorem feedSeams_tle (ds : List Departing) : (feedSeams ds s).tle = s.tle := by
  unfold feedSeams; (try dsimp only); (repeat' split) <;> simp
@[simp] theorem feedSeams_rtu (ds : List Departing) : (feedSeams ds s).rtu = s.rtu := by
  unfold feedSeams; (try dsimp only); (repeat' split) <;> simp
@[simp] theorem feedSeams_slr (ds : List Departing) : (feedSeams ds s).slr = s.slr := by
  unfold feedSeams; (try dsimp only); (repeat' split) <;> simp
@[simp] theorem feedSeams_las (ds : List Departing) : (feedSeams ds s).las = s.las := by
  unfold feedSeams; (try dsimp only); (repeat' split) <;> simp
@[simp] theorem feedSeams_bcr (ds : List Departing) : (feedSeams ds s).bcr = s.bcr := by
  unfold feedSeams; (try dsimp only); (repeat' split) <;> simp
@[simp] theorem feedSeams_bss (ds : List Departing) : (feedSeams ds s).bss = s.bss := by
  unfold feedSeams; (try dsimp only); (repeat' split) <;> simp
@[simp] theorem feedSeams_acu (ds : List Departing) : (feedSeams ds s).acu = s.acu := by
  unfold feedSeams; (try dsimp only); (repeat' split) <;> simp
@[simp] theorem feedSeams_lma (ds : List Departing) : (feedSeams ds s).lma = s.lma := by
  unfold feedSeams; (try dsimp only); (repeat' split) <;> simp
@[simp] theorem feedSeams_out (ds : List Departing) : (feedSeams ds s).out = s.out := by
  unfold feedSeams; (try dsimp only); (repeat' split) <;> simp
@[simp] theorem feedSeams_pending (ds : List Departing) : (feedSeams ds s).pending = s.pending := by
  unfold feedSeams; (try dsimp only); (repeat' split) <;> simp

/-! ### decideSeams -/

@[simp] theorem decideSeams_tle : (decideSeams s).tle = s.tle := by
  unfold decideSeams; (try dsimp only); (repeat' split) <;> simp
@[simp] theorem decideSeams_rtu : (decideSeams s).rtu = s.rtu := by
  unfold decideSeams; (try dsimp only); (repeat' split) <;> simp
@[simp] theorem decideSeams_slr : (decideSeams s).slr = s.slr := by
  unfold decideSeams; (try dsimp only); (repeat' split) <;> simp
@[simp] theorem decideSeams_las : (decideSeams s).las = s.las := by
  unfold decideSeams; (try dsimp only); (repeat' split) <;> simp
@[simp] theorem decideSeams_bcr : (decideSeams s).bcr = s.bcr := by
  unfold decideSeams; (try dsimp only); (repeat' split) <;> simp
@[simp] theorem decideSeams_bss : (decideSeams s).bss = s.bss := by
  unfold decideSeams; (try dsimp only); (repeat' split) <;> simp
@[simp] theorem decideSeams_acu : (decideSeams s).acu = s.acu := by
  unfold decideSeams; (try dsimp only); (repeat' split) <;> simp
@[simp] theorem decideSeams_out : (decideSeams s).out = s.out := by
  unfold decideSeams; (try dsimp only); (repeat' split) <;> simp
@[simp] theorem decideSeams_pending : (decideSeams s).pending = s.pending := by
  unfold decideSeams; (try dsimp only); (repeat' split) <;> simp

/-! ### reportConcealment -/

@[simp] theorem reportConcealment_tle (ds : List Departing) : (reportConcealment ds s).tle = s.tle := by
  unfold reportConcealment; (try dsimp only); (repeat' split) <;> simp
@[simp] theorem reportConcealment_rtu (ds : List Departing) : (reportConcealment ds s).rtu = s.rtu := by
  unfold reportConcealment; (try dsimp only); (repeat' split) <;> simp
@[simp] theorem reportConcealment_slr (ds : List Departing) : (reportConcealment ds s).slr = s.slr := by
  unfold reportConcealment; (try dsimp only); (repeat' split) <;> simp
@[simp] theorem reportConcealment_las (ds : List Departing) : (reportConcealment ds s).las = s.las := by
  unfold reportConcealment; (try dsimp only); (repeat' split) <;> simp
@[simp] theorem reportConcealment_ldu (ds : List Departing) : (reportConcealment ds s).ldu = s.ldu := by
  unfold reportConcealment; (try dsimp only); (repeat' split) <;> simp
@[simp] theorem reportConcealment_bcr (ds : List Departing) : (reportConcealment ds s).bcr = s.bcr := by
  unfold reportConcealment; (try dsimp only); (repeat' split) <;> simp
@[simp] theorem reportConcealment_bss (ds : List Departing) : (reportConcealment ds s).bss = s.bss := by
  unfold reportConcealment; (try dsimp only); (repeat' split) <;> simp
@[simp] theorem reportConcealment_acu (ds : List Departing) : (reportConcealment ds s).acu = s.acu := by
  unfold reportConcealment; (try dsimp only); (repeat' split) <;> simp
@[simp] theorem reportConcealment_out (ds : List Departing) : (reportConcealment ds s).out = s.out := by
  unfold reportConcealment; (try dsimp only); (repeat' split) <;> simp
@[simp] theorem reportConcealment_pending (ds : List Departing) : (reportConcealment ds s).pending = s.pending := by
  unfold reportConcealment; (try dsimp only); (repeat' split) <;> simp

/-! ### packLine -/

@[simp] theorem packLine_rtu (f : Fin 16) (n : Nat) (ds : List Departing) : (packLine f n ds s).rtu = s.rtu := by
  unfold packLine; (try dsimp only); (repeat' split) <;> simp
@[simp] theorem packLine_slr (f : Fin 16) (n : Nat) (ds : List Departing) : (packLine f n ds s).slr = s.slr := by
  unfold packLine; (try dsimp only); (repeat' split) <;> simp
@[simp] theorem packLine_las (f : Fin 16) (n : Nat) (ds : List Departing) : (packLine f n ds s).las = s.las := by
  unfold packLine; (try dsimp only); (repeat' split) <;> simp
@[simp] theorem packLine_ldu (f : Fin 16) (n : Nat) (ds : List Departing) : (packLine f n ds s).ldu = s.ldu := by
  unfold packLine; (try dsimp only); (repeat' split) <;> simp
@[simp] theorem packLine_bcr (f : Fin 16) (n : Nat) (ds : List Departing) : (packLine f n ds s).bcr = s.bcr := by
  unfold packLine; (try dsimp only); (repeat' split) <;> simp
@[simp] theorem packLine_bss (f : Fin 16) (n : Nat) (ds : List Departing) : (packLine f n ds s).bss = s.bss := by
  unfold packLine; (try dsimp only); (repeat' split) <;> simp
@[simp] theorem packLine_acu (f : Fin 16) (n : Nat) (ds : List Departing) : (packLine f n ds s).acu = s.acu := by
  unfold packLine; (try dsimp only); (repeat' split) <;> simp
@[simp] theorem packLine_out (f : Fin 16) (n : Nat) (ds : List Departing) : (packLine f n ds s).out = s.out := by
  unfold packLine; (try dsimp only); (repeat' split) <;> simp
@[simp] theorem packLine_pending (f : Fin 16) (n : Nat) (ds : List Departing) : (packLine f n ds s).pending = s.pending := by
  unfold packLine; (try dsimp only); (repeat' split) <;> simp

/-! ### departLine -/

@[simp] theorem departLine_rtu (f : Fin 16) (n : Nat) (bk : Bank) (p : List Segment) : (departLine f n bk p s).rtu = s.rtu := by
  unfold departLine; (try dsimp only); (repeat' split) <;> simp
@[simp] theorem departLine_slr (f : Fin 16) (n : Nat) (bk : Bank) (p : List Segment) : (departLine f n bk p s).slr = s.slr := by
  unfold departLine; (try dsimp only); (repeat' split) <;> simp
@[simp] theorem departLine_las (f : Fin 16) (n : Nat) (bk : Bank) (p : List Segment) : (departLine f n bk p s).las = s.las := by
  unfold departLine; (try dsimp only); (repeat' split) <;> simp
@[simp] theorem departLine_bcr (f : Fin 16) (n : Nat) (bk : Bank) (p : List Segment) : (departLine f n bk p s).bcr = s.bcr := by
  unfold departLine; (try dsimp only); (repeat' split) <;> simp
@[simp] theorem departLine_bss (f : Fin 16) (n : Nat) (bk : Bank) (p : List Segment) : (departLine f n bk p s).bss = s.bss := by
  unfold departLine; (try dsimp only); (repeat' split) <;> simp
@[simp] theorem departLine_acu (f : Fin 16) (n : Nat) (bk : Bank) (p : List Segment) : (departLine f n bk p s).acu = s.acu := by
  unfold departLine; (try dsimp only); (repeat' split) <;> simp
@[simp] theorem departLine_out (f : Fin 16) (n : Nat) (bk : Bank) (p : List Segment) : (departLine f n bk p s).out = s.out := by
  unfold departLine; (try dsimp only); (repeat' split) <;> simp
@[simp] theorem departLine_pending (f : Fin 16) (n : Nat) (bk : Bank) (p : List Segment) : (departLine f n bk p s).pending = s.pending := by
  unfold departLine; (try dsimp only); (repeat' split) <;> simp

/-! ### issueProbe -/

@[simp] theorem issueProbe_tle (now : Nat) : (issueProbe now s).tle = s.tle := by
  unfold issueProbe; (try dsimp only); (repeat' split) <;> simp
@[simp] theorem issueProbe_slr (now : Nat) : (issueProbe now s).slr = s.slr := by
  unfold issueProbe; (try dsimp only); (repeat' split) <;> simp
@[simp] theorem issueProbe_las (now : Nat) : (issueProbe now s).las = s.las := by
  unfold issueProbe; (try dsimp only); (repeat' split) <;> simp
@[simp] theorem issueProbe_ldu (now : Nat) : (issueProbe now s).ldu = s.ldu := by
  unfold issueProbe; (try dsimp only); (repeat' split) <;> simp
@[simp] theorem issueProbe_bcr (now : Nat) : (issueProbe now s).bcr = s.bcr := by
  unfold issueProbe; (try dsimp only); (repeat' split) <;> simp
@[simp] theorem issueProbe_bss (now : Nat) : (issueProbe now s).bss = s.bss := by
  unfold issueProbe; (try dsimp only); (repeat' split) <;> simp
@[simp] theorem issueProbe_acu (now : Nat) : (issueProbe now s).acu = s.acu := by
  unfold issueProbe; (try dsimp only); (repeat' split) <;> simp
@[simp] theorem issueProbe_lma (now : Nat) : (issueProbe now s).lma = s.lma := by
  unfold issueProbe; (try dsimp only); (repeat' split) <;> simp
@[simp] theorem issueProbe_out (now : Nat) : (issueProbe now s).out = s.out := by
  unfold issueProbe; (try dsimp only); (repeat' split) <;> simp
@[simp] theorem issueProbe_pending (now : Nat) : (issueProbe now s).pending = s.pending := by
  unfold issueProbe; (try dsimp only); (repeat' split) <;> simp

/-! ### abandonProbe -/

@[simp] theorem abandonProbe_tle : (abandonProbe s).tle = s.tle := by
  unfold abandonProbe; (try dsimp only); (repeat' split) <;> simp
@[simp] theorem abandonProbe_slr : (abandonProbe s).slr = s.slr := by
  unfold abandonProbe; (try dsimp only); (repeat' split) <;> simp
@[simp] theorem abandonProbe_las : (abandonProbe s).las = s.las := by
  unfold abandonProbe; (try dsimp only); (repeat' split) <;> simp
@[simp] theorem abandonProbe_ldu : (abandonProbe s).ldu = s.ldu := by
  unfold abandonProbe; (try dsimp only); (repeat' split) <;> simp
@[simp] theorem abandonProbe_bcr : (abandonProbe s).bcr = s.bcr := by
  unfold abandonProbe; (try dsimp only); (repeat' split) <;> simp
@[simp] theorem abandonProbe_bss : (abandonProbe s).bss = s.bss := by
  unfold abandonProbe; (try dsimp only); (repeat' split) <;> simp
@[simp] theorem abandonProbe_acu : (abandonProbe s).acu = s.acu := by
  unfold abandonProbe; (try dsimp only); (repeat' split) <;> simp
@[simp] theorem abandonProbe_out : (abandonProbe s).out = s.out := by
  unfold abandonProbe; (try dsimp only); (repeat' split) <;> simp
@[simp] theorem abandonProbe_pending : (abandonProbe s).pending = s.pending := by
  unfold abandonProbe; (try dsimp only); (repeat' split) <;> simp

/-! ### ageProbe -/

@[simp] theorem ageProbe_tle : (ageProbe s).tle = s.tle := by
  unfold ageProbe; (try dsimp only); (repeat' split) <;> simp
@[simp] theorem ageProbe_slr : (ageProbe s).slr = s.slr := by
  unfold ageProbe; (try dsimp only); (repeat' split) <;> simp
@[simp] theorem ageProbe_las : (ageProbe s).las = s.las := by
  unfold ageProbe; (try dsimp only); (repeat' split) <;> simp
@[simp] theorem ageProbe_ldu : (ageProbe s).ldu = s.ldu := by
  unfold ageProbe; (try dsimp only); (repeat' split) <;> simp
@[simp] theorem ageProbe_bcr : (ageProbe s).bcr = s.bcr := by
  unfold ageProbe; (try dsimp only); (repeat' split) <;> simp
@[simp] theorem ageProbe_bss : (ageProbe s).bss = s.bss := by
  unfold ageProbe; (try dsimp only); (repeat' split) <;> simp
@[simp] theorem ageProbe_acu : (ageProbe s).acu = s.acu := by
  unfold ageProbe; (try dsimp only); (repeat' split) <;> simp
@[simp] theorem ageProbe_out : (ageProbe s).out = s.out := by
  unfold ageProbe; (try dsimp only); (repeat' split) <;> simp
@[simp] theorem ageProbe_pending : (ageProbe s).pending = s.pending := by
  unfold ageProbe; (try dsimp only); (repeat' split) <;> simp

/-! ### tickProbe -/

@[simp] theorem tickProbe_tle (now : Nat) (b : Bool) : (tickProbe now b s).tle = s.tle := by
  unfold tickProbe; (try dsimp only); (repeat' split) <;> simp
@[simp] theorem tickProbe_slr (now : Nat) (b : Bool) : (tickProbe now b s).slr = s.slr := by
  unfold tickProbe; (try dsimp only); (repeat' split) <;> simp
@[simp] theorem tickProbe_las (now : Nat) (b : Bool) : (tickProbe now b s).las = s.las := by
  unfold tickProbe; (try dsimp only); (repeat' split) <;> simp
@[simp] theorem tickProbe_ldu (now : Nat) (b : Bool) : (tickProbe now b s).ldu = s.ldu := by
  unfold tickProbe; (try dsimp only); (repeat' split) <;> simp
@[simp] theorem tickProbe_bcr (now : Nat) (b : Bool) : (tickProbe now b s).bcr = s.bcr := by
  unfold tickProbe; (try dsimp only); (repeat' split) <;> simp
@[simp] theorem tickProbe_bss (now : Nat) (b : Bool) : (tickProbe now b s).bss = s.bss := by
  unfold tickProbe; (try dsimp only); (repeat' split) <;> simp
@[simp] theorem tickProbe_acu (now : Nat) (b : Bool) : (tickProbe now b s).acu = s.acu := by
  unfold tickProbe; (try dsimp only); (repeat' split) <;> simp
@[simp] theorem tickProbe_out (now : Nat) (b : Bool) : (tickProbe now b s).out = s.out := by
  unfold tickProbe; (try dsimp only); (repeat' split) <;> simp
@[simp] theorem tickProbe_pending (now : Nat) (b : Bool) : (tickProbe now b s).pending = s.pending := by
  unfold tickProbe; (try dsimp only); (repeat' split) <;> simp

/-! ### sendFrameStart -/

@[simp] theorem sendFrameStart_tle (g : Fin 16) (i : Fin 4) : (sendFrameStart g i s).tle = s.tle := by
  unfold sendFrameStart; (try dsimp only); (repeat' split) <;> simp
@[simp] theorem sendFrameStart_rtu (g : Fin 16) (i : Fin 4) : (sendFrameStart g i s).rtu = s.rtu := by
  unfold sendFrameStart; (try dsimp only); (repeat' split) <;> simp
@[simp] theorem sendFrameStart_slr (g : Fin 16) (i : Fin 4) : (sendFrameStart g i s).slr = s.slr := by
  unfold sendFrameStart; (try dsimp only); (repeat' split) <;> simp
@[simp] theorem sendFrameStart_las (g : Fin 16) (i : Fin 4) : (sendFrameStart g i s).las = s.las := by
  unfold sendFrameStart; (try dsimp only); (repeat' split) <;> simp
@[simp] theorem sendFrameStart_ldu (g : Fin 16) (i : Fin 4) : (sendFrameStart g i s).ldu = s.ldu := by
  unfold sendFrameStart; (try dsimp only); (repeat' split) <;> simp
@[simp] theorem sendFrameStart_bcr (g : Fin 16) (i : Fin 4) : (sendFrameStart g i s).bcr = s.bcr := by
  unfold sendFrameStart; (try dsimp only); (repeat' split) <;> simp
@[simp] theorem sendFrameStart_bss (g : Fin 16) (i : Fin 4) : (sendFrameStart g i s).bss = s.bss := by
  unfold sendFrameStart; (try dsimp only); (repeat' split) <;> simp
@[simp] theorem sendFrameStart_acu (g : Fin 16) (i : Fin 4) : (sendFrameStart g i s).acu = s.acu := by
  unfold sendFrameStart; (try dsimp only); (repeat' split) <;> simp
@[simp] theorem sendFrameStart_lma (g : Fin 16) (i : Fin 4) : (sendFrameStart g i s).lma = s.lma := by
  unfold sendFrameStart; (try dsimp only); (repeat' split) <;> simp
@[simp] theorem sendFrameStart_pending (g : Fin 16) (i : Fin 4) : (sendFrameStart g i s).pending = s.pending := by
  unfold sendFrameStart; (try dsimp only); (repeat' split) <;> simp

/-! ### triggerFrame -/

@[simp] theorem triggerFrame_tle (g : Fin 16) : (triggerFrame g s).tle = s.tle := by
  unfold triggerFrame; (try dsimp only); (repeat' split) <;> simp
@[simp] theorem triggerFrame_slr (g : Fin 16) : (triggerFrame g s).slr = s.slr := by
  unfold triggerFrame; (try dsimp only); (repeat' split) <;> simp
@[simp] theorem triggerFrame_ldu (g : Fin 16) : (triggerFrame g s).ldu = s.ldu := by
  unfold triggerFrame; (try dsimp only); (repeat' split) <;> simp
@[simp] theorem triggerFrame_bcr (g : Fin 16) : (triggerFrame g s).bcr = s.bcr := by
  unfold triggerFrame; (try dsimp only); (repeat' split) <;> simp
@[simp] theorem triggerFrame_bss (g : Fin 16) : (triggerFrame g s).bss = s.bss := by
  unfold triggerFrame; (try dsimp only); (repeat' split) <;> simp
@[simp] theorem triggerFrame_acu (g : Fin 16) : (triggerFrame g s).acu = s.acu := by
  unfold triggerFrame; (try dsimp only); (repeat' split) <;> simp
@[simp] theorem triggerFrame_lma (g : Fin 16) : (triggerFrame g s).lma = s.lma := by
  unfold triggerFrame; (try dsimp only); (repeat' split) <;> simp
@[simp] theorem triggerFrame_pending (g : Fin 16) : (triggerFrame g s).pending = s.pending := by
  unfold triggerFrame; (try dsimp only); (repeat' split) <;> simp

/-! ### testTrigger -/

@[simp] theorem testTrigger_tle (l : Label) : (testTrigger l s).tle = s.tle := by
  unfold testTrigger; (try dsimp only); (repeat' split) <;> simp
@[simp] theorem testTrigger_slr (l : Label) : (testTrigger l s).slr = s.slr := by
  unfold testTrigger; (try dsimp only); (repeat' split) <;> simp
@[simp] theorem testTrigger_ldu (l : Label) : (testTrigger l s).ldu = s.ldu := by
  unfold testTrigger; (try dsimp only); (repeat' split) <;> simp
@[simp] theorem testTrigger_bcr (l : Label) : (testTrigger l s).bcr = s.bcr := by
  unfold testTrigger; (try dsimp only); (repeat' split) <;> simp
@[simp] theorem testTrigger_bss (l : Label) : (testTrigger l s).bss = s.bss := by
  unfold testTrigger; (try dsimp only); (repeat' split) <;> simp
@[simp] theorem testTrigger_acu (l : Label) : (testTrigger l s).acu = s.acu := by
  unfold testTrigger; (try dsimp only); (repeat' split) <;> simp
@[simp] theorem testTrigger_lma (l : Label) : (testTrigger l s).lma = s.lma := by
  unfold testTrigger; (try dsimp only); (repeat' split) <;> simp
@[simp] theorem testTrigger_pending (l : Label) : (testTrigger l s).pending = s.pending := by
  unfold testTrigger; (try dsimp only); (repeat' split) <;> simp

/-! ### takeFrameBank -/

@[simp] theorem takeFrameBank_tle (o : Option Label) (l : Label) : (takeFrameBank o l s).tle = s.tle := by
  unfold takeFrameBank; (try dsimp only); (repeat' split) <;> simp
@[simp] theorem takeFrameBank_rtu (o : Option Label) (l : Label) : (takeFrameBank o l s).rtu = s.rtu := by
  unfold takeFrameBank; (try dsimp only); (repeat' split) <;> simp
@[simp] theorem takeFrameBank_slr (o : Option Label) (l : Label) : (takeFrameBank o l s).slr = s.slr := by
  unfold takeFrameBank; (try dsimp only); (repeat' split) <;> simp
@[simp] theorem takeFrameBank_ldu (o : Option Label) (l : Label) : (takeFrameBank o l s).ldu = s.ldu := by
  unfold takeFrameBank; (try dsimp only); (repeat' split) <;> simp
@[simp] theorem takeFrameBank_bcr (o : Option Label) (l : Label) : (takeFrameBank o l s).bcr = s.bcr := by
  unfold takeFrameBank; (try dsimp only); (repeat' split) <;> simp
@[simp] theorem takeFrameBank_bss (o : Option Label) (l : Label) : (takeFrameBank o l s).bss = s.bss := by
  unfold takeFrameBank; (try dsimp only); (repeat' split) <;> simp
@[simp] theorem takeFrameBank_acu (o : Option Label) (l : Label) : (takeFrameBank o l s).acu = s.acu := by
  unfold takeFrameBank; (try dsimp only); (repeat' split) <;> simp
@[simp] theorem takeFrameBank_lma (o : Option Label) (l : Label) : (takeFrameBank o l s).lma = s.lma := by
  unfold takeFrameBank; (try dsimp only); (repeat' split) <;> simp
@[simp] theorem takeFrameBank_out (o : Option Label) (l : Label) : (takeFrameBank o l s).out = s.out := by
  unfold takeFrameBank; (try dsimp only); (repeat' split) <;> simp
@[simp] theorem takeFrameBank_pending (o : Option Label) (l : Label) : (takeFrameBank o l s).pending = s.pending := by
  unfold takeFrameBank; (try dsimp only); (repeat' split) <;> simp

/-! ### flipAtTick -/

@[simp] theorem flipAtTick_rtu (l : Label) : (flipAtTick l s).rtu = s.rtu := by
  unfold flipAtTick; (try dsimp only); (repeat' split) <;> simp
@[simp] theorem flipAtTick_slr (l : Label) : (flipAtTick l s).slr = s.slr := by
  unfold flipAtTick; (try dsimp only); (repeat' split) <;> simp
@[simp] theorem flipAtTick_bcr (l : Label) : (flipAtTick l s).bcr = s.bcr := by
  unfold flipAtTick; (try dsimp only); (repeat' split) <;> simp
@[simp] theorem flipAtTick_bss (l : Label) : (flipAtTick l s).bss = s.bss := by
  unfold flipAtTick; (try dsimp only); (repeat' split) <;> simp
@[simp] theorem flipAtTick_acu (l : Label) : (flipAtTick l s).acu = s.acu := by
  unfold flipAtTick; (try dsimp only); (repeat' split) <;> simp
@[simp] theorem flipAtTick_out (l : Label) : (flipAtTick l s).out = s.out := by
  unfold flipAtTick; (try dsimp only); (repeat' split) <;> simp
@[simp] theorem flipAtTick_pending (l : Label) : (flipAtTick l s).pending = s.pending := by
  unfold flipAtTick; (try dsimp only); (repeat' split) <;> simp

/-! ### endSuperframe -/

@[simp] theorem endSuperframe_rtu : (endSuperframe s).rtu = s.rtu := by
  unfold endSuperframe; (try dsimp only); (repeat' split) <;> simp
@[simp] theorem endSuperframe_slr : (endSuperframe s).slr = s.slr := by
  unfold endSuperframe; (try dsimp only); (repeat' split) <;> simp
@[simp] theorem endSuperframe_las : (endSuperframe s).las = s.las := by
  unfold endSuperframe; (try dsimp only); (repeat' split) <;> simp
@[simp] theorem endSuperframe_ldu : (endSuperframe s).ldu = s.ldu := by
  unfold endSuperframe; (try dsimp only); (repeat' split) <;> simp
@[simp] theorem endSuperframe_bcr : (endSuperframe s).bcr = s.bcr := by
  unfold endSuperframe; (try dsimp only); (repeat' split) <;> simp
@[simp] theorem endSuperframe_bss : (endSuperframe s).bss = s.bss := by
  unfold endSuperframe; (try dsimp only); (repeat' split) <;> simp
@[simp] theorem endSuperframe_acu : (endSuperframe s).acu = s.acu := by
  unfold endSuperframe; (try dsimp only); (repeat' split) <;> simp
@[simp] theorem endSuperframe_out : (endSuperframe s).out = s.out := by
  unfold endSuperframe; (try dsimp only); (repeat' split) <;> simp
@[simp] theorem endSuperframe_pending : (endSuperframe s).pending = s.pending := by
  unfold endSuperframe; (try dsimp only); (repeat' split) <;> simp

/-! ### beginSlot -/

@[simp] theorem beginSlot_rtu (bk : Bank) (n : Nat) (c : UpCell) : (beginSlot bk n c s).rtu = s.rtu := by
  unfold beginSlot; (try dsimp only); (repeat' split) <;> simp
@[simp] theorem beginSlot_slr (bk : Bank) (n : Nat) (c : UpCell) : (beginSlot bk n c s).slr = s.slr := by
  unfold beginSlot; (try dsimp only); (repeat' split) <;> simp
@[simp] theorem beginSlot_las (bk : Bank) (n : Nat) (c : UpCell) : (beginSlot bk n c s).las = s.las := by
  unfold beginSlot; (try dsimp only); (repeat' split) <;> simp
@[simp] theorem beginSlot_ldu (bk : Bank) (n : Nat) (c : UpCell) : (beginSlot bk n c s).ldu = s.ldu := by
  unfold beginSlot; (try dsimp only); (repeat' split) <;> simp
@[simp] theorem beginSlot_bcr (bk : Bank) (n : Nat) (c : UpCell) : (beginSlot bk n c s).bcr = s.bcr := by
  unfold beginSlot; (try dsimp only); (repeat' split) <;> simp
@[simp] theorem beginSlot_bss (bk : Bank) (n : Nat) (c : UpCell) : (beginSlot bk n c s).bss = s.bss := by
  unfold beginSlot; (try dsimp only); (repeat' split) <;> simp
@[simp] theorem beginSlot_acu (bk : Bank) (n : Nat) (c : UpCell) : (beginSlot bk n c s).acu = s.acu := by
  unfold beginSlot; (try dsimp only); (repeat' split) <;> simp
@[simp] theorem beginSlot_lma (bk : Bank) (n : Nat) (c : UpCell) : (beginSlot bk n c s).lma = s.lma := by
  unfold beginSlot; (try dsimp only); (repeat' split) <;> simp
@[simp] theorem beginSlot_pending (bk : Bank) (n : Nat) (c : UpCell) : (beginSlot bk n c s).pending = s.pending := by
  unfold beginSlot; (try dsimp only); (repeat' split) <;> simp

/-! ### startSuperframe -/

@[simp] theorem startSuperframe_rtu (p : Option Byte) (b : Bool) : (startSuperframe p b s).rtu = s.rtu := by
  unfold startSuperframe; (try dsimp only); (repeat' split) <;> simp
@[simp] theorem startSuperframe_slr (p : Option Byte) (b : Bool) : (startSuperframe p b s).slr = s.slr := by
  unfold startSuperframe; (try dsimp only); (repeat' split) <;> simp
@[simp] theorem startSuperframe_las (p : Option Byte) (b : Bool) : (startSuperframe p b s).las = s.las := by
  unfold startSuperframe; (try dsimp only); (repeat' split) <;> simp
@[simp] theorem startSuperframe_ldu (p : Option Byte) (b : Bool) : (startSuperframe p b s).ldu = s.ldu := by
  unfold startSuperframe; (try dsimp only); (repeat' split) <;> simp
@[simp] theorem startSuperframe_bcr (p : Option Byte) (b : Bool) : (startSuperframe p b s).bcr = s.bcr := by
  unfold startSuperframe; (try dsimp only); (repeat' split) <;> simp
@[simp] theorem startSuperframe_bss (p : Option Byte) (b : Bool) : (startSuperframe p b s).bss = s.bss := by
  unfold startSuperframe; (try dsimp only); (repeat' split) <;> simp
@[simp] theorem startSuperframe_acu (p : Option Byte) (b : Bool) : (startSuperframe p b s).acu = s.acu := by
  unfold startSuperframe; (try dsimp only); (repeat' split) <;> simp
@[simp] theorem startSuperframe_lma (p : Option Byte) (b : Bool) : (startSuperframe p b s).lma = s.lma := by
  unfold startSuperframe; (try dsimp only); (repeat' split) <;> simp
@[simp] theorem startSuperframe_pending (p : Option Byte) (b : Bool) : (startSuperframe p b s).pending = s.pending := by
  unfold startSuperframe; (try dsimp only); (repeat' split) <;> simp

/-! ### freeRecord -/

@[simp] theorem freeRecord_rtu (f : Fin 16) (n : Nat) : (freeRecord f n s).rtu = s.rtu := by
  unfold freeRecord; (try dsimp only); (repeat' split) <;> simp
@[simp] theorem freeRecord_slr (f : Fin 16) (n : Nat) : (freeRecord f n s).slr = s.slr := by
  unfold freeRecord; (try dsimp only); (repeat' split) <;> simp
@[simp] theorem freeRecord_ldu (f : Fin 16) (n : Nat) : (freeRecord f n s).ldu = s.ldu := by
  unfold freeRecord; (try dsimp only); (repeat' split) <;> simp
@[simp] theorem freeRecord_bcr (f : Fin 16) (n : Nat) : (freeRecord f n s).bcr = s.bcr := by
  unfold freeRecord; (try dsimp only); (repeat' split) <;> simp
@[simp] theorem freeRecord_bss (f : Fin 16) (n : Nat) : (freeRecord f n s).bss = s.bss := by
  unfold freeRecord; (try dsimp only); (repeat' split) <;> simp
@[simp] theorem freeRecord_acu (f : Fin 16) (n : Nat) : (freeRecord f n s).acu = s.acu := by
  unfold freeRecord; (try dsimp only); (repeat' split) <;> simp
@[simp] theorem freeRecord_out (f : Fin 16) (n : Nat) : (freeRecord f n s).out = s.out := by
  unfold freeRecord; (try dsimp only); (repeat' split) <;> simp
@[simp] theorem freeRecord_pending (f : Fin 16) (n : Nat) : (freeRecord f n s).pending = s.pending := by
  unfold freeRecord; (try dsimp only); (repeat' split) <;> simp

/-! ### departureEvent -/

@[simp] theorem departureEvent_rtu (f : Fin 16) (n : Nat) : (departureEvent f n s).rtu = s.rtu := by
  unfold departureEvent; (try dsimp only); (repeat' split) <;> simp
@[simp] theorem departureEvent_slr (f : Fin 16) (n : Nat) : (departureEvent f n s).slr = s.slr := by
  unfold departureEvent; (try dsimp only); (repeat' split) <;> simp
@[simp] theorem departureEvent_bcr (f : Fin 16) (n : Nat) : (departureEvent f n s).bcr = s.bcr := by
  unfold departureEvent; (try dsimp only); (repeat' split) <;> simp
@[simp] theorem departureEvent_bss (f : Fin 16) (n : Nat) : (departureEvent f n s).bss = s.bss := by
  unfold departureEvent; (try dsimp only); (repeat' split) <;> simp
@[simp] theorem departureEvent_acu (f : Fin 16) (n : Nat) : (departureEvent f n s).acu = s.acu := by
  unfold departureEvent; (try dsimp only); (repeat' split) <;> simp
@[simp] theorem departureEvent_out (f : Fin 16) (n : Nat) : (departureEvent f n s).out = s.out := by
  unfold departureEvent; (try dsimp only); (repeat' split) <;> simp
@[simp] theorem departureEvent_pending (f : Fin 16) (n : Nat) : (departureEvent f n s).pending = s.pending := by
  unfold departureEvent; (try dsimp only); (repeat' split) <;> simp

/-! ### tickDeparture -/

@[simp] theorem tickDeparture_rtu (l : Label) : (tickDeparture l s).rtu = s.rtu := by
  unfold tickDeparture; (try dsimp only); (repeat' split) <;> simp
@[simp] theorem tickDeparture_slr (l : Label) : (tickDeparture l s).slr = s.slr := by
  unfold tickDeparture; (try dsimp only); (repeat' split) <;> simp
@[simp] theorem tickDeparture_bcr (l : Label) : (tickDeparture l s).bcr = s.bcr := by
  unfold tickDeparture; (try dsimp only); (repeat' split) <;> simp
@[simp] theorem tickDeparture_bss (l : Label) : (tickDeparture l s).bss = s.bss := by
  unfold tickDeparture; (try dsimp only); (repeat' split) <;> simp
@[simp] theorem tickDeparture_acu (l : Label) : (tickDeparture l s).acu = s.acu := by
  unfold tickDeparture; (try dsimp only); (repeat' split) <;> simp
@[simp] theorem tickDeparture_out (l : Label) : (tickDeparture l s).out = s.out := by
  unfold tickDeparture; (try dsimp only); (repeat' split) <;> simp
@[simp] theorem tickDeparture_pending (l : Label) : (tickDeparture l s).pending = s.pending := by
  unfold tickDeparture; (try dsimp only); (repeat' split) <;> simp

/-! ### tickSeams -/

@[simp] theorem tickSeams_tle (l : Label) : (tickSeams l s).tle = s.tle := by
  unfold tickSeams; (try dsimp only); (repeat' split) <;> simp
@[simp] theorem tickSeams_rtu (l : Label) : (tickSeams l s).rtu = s.rtu := by
  unfold tickSeams; (try dsimp only); (repeat' split) <;> simp
@[simp] theorem tickSeams_slr (l : Label) : (tickSeams l s).slr = s.slr := by
  unfold tickSeams; (try dsimp only); (repeat' split) <;> simp
@[simp] theorem tickSeams_las (l : Label) : (tickSeams l s).las = s.las := by
  unfold tickSeams; (try dsimp only); (repeat' split) <;> simp
@[simp] theorem tickSeams_bcr (l : Label) : (tickSeams l s).bcr = s.bcr := by
  unfold tickSeams; (try dsimp only); (repeat' split) <;> simp
@[simp] theorem tickSeams_bss (l : Label) : (tickSeams l s).bss = s.bss := by
  unfold tickSeams; (try dsimp only); (repeat' split) <;> simp
@[simp] theorem tickSeams_acu (l : Label) : (tickSeams l s).acu = s.acu := by
  unfold tickSeams; (try dsimp only); (repeat' split) <;> simp
@[simp] theorem tickSeams_out (l : Label) : (tickSeams l s).out = s.out := by
  unfold tickSeams; (try dsimp only); (repeat' split) <;> simp
@[simp] theorem tickSeams_pending (l : Label) : (tickSeams l s).pending = s.pending := by
  unfold tickSeams; (try dsimp only); (repeat' split) <;> simp

/-! ### beginStale -/

@[simp] theorem beginStale_tle (i : Fin 4) : (beginStale i s).tle = s.tle := by
  unfold beginStale; (try dsimp only); (repeat' split) <;> simp
@[simp] theorem beginStale_rtu (i : Fin 4) : (beginStale i s).rtu = s.rtu := by
  unfold beginStale; (try dsimp only); (repeat' split) <;> simp
@[simp] theorem beginStale_las (i : Fin 4) : (beginStale i s).las = s.las := by
  unfold beginStale; (try dsimp only); (repeat' split) <;> simp
@[simp] theorem beginStale_ldu (i : Fin 4) : (beginStale i s).ldu = s.ldu := by
  unfold beginStale; (try dsimp only); (repeat' split) <;> simp
@[simp] theorem beginStale_bcr (i : Fin 4) : (beginStale i s).bcr = s.bcr := by
  unfold beginStale; (try dsimp only); (repeat' split) <;> simp
@[simp] theorem beginStale_bss (i : Fin 4) : (beginStale i s).bss = s.bss := by
  unfold beginStale; (try dsimp only); (repeat' split) <;> simp
@[simp] theorem beginStale_acu (i : Fin 4) : (beginStale i s).acu = s.acu := by
  unfold beginStale; (try dsimp only); (repeat' split) <;> simp
@[simp] theorem beginStale_out (i : Fin 4) : (beginStale i s).out = s.out := by
  unfold beginStale; (try dsimp only); (repeat' split) <;> simp
@[simp] theorem beginStale_pending (i : Fin 4) : (beginStale i s).pending = s.pending := by
  unfold beginStale; (try dsimp only); (repeat' split) <;> simp

/-! ### tickStale -/

@[simp] theorem tickStale_tle (i : Fin 4) : (tickStale i s).tle = s.tle := by
  unfold tickStale; (try dsimp only); (repeat' split) <;> simp
@[simp] theorem tickStale_rtu (i : Fin 4) : (tickStale i s).rtu = s.rtu := by
  unfold tickStale; (try dsimp only); (repeat' split) <;> simp
@[simp] theorem tickStale_las (i : Fin 4) : (tickStale i s).las = s.las := by
  unfold tickStale; (try dsimp only); (repeat' split) <;> simp
@[simp] theorem tickStale_ldu (i : Fin 4) : (tickStale i s).ldu = s.ldu := by
  unfold tickStale; (try dsimp only); (repeat' split) <;> simp
@[simp] theorem tickStale_bcr (i : Fin 4) : (tickStale i s).bcr = s.bcr := by
  unfold tickStale; (try dsimp only); (repeat' split) <;> simp
@[simp] theorem tickStale_bss (i : Fin 4) : (tickStale i s).bss = s.bss := by
  unfold tickStale; (try dsimp only); (repeat' split) <;> simp
@[simp] theorem tickStale_acu (i : Fin 4) : (tickStale i s).acu = s.acu := by
  unfold tickStale; (try dsimp only); (repeat' split) <;> simp
@[simp] theorem tickStale_out (i : Fin 4) : (tickStale i s).out = s.out := by
  unfold tickStale; (try dsimp only); (repeat' split) <;> simp
@[simp] theorem tickStale_pending (i : Fin 4) : (tickStale i s).pending = s.pending := by
  unfold tickStale; (try dsimp only); (repeat' split) <;> simp

/-! ### tickFromSlot0 -/

@[simp] theorem tickFromSlot0_bcr (now : Nat) (l : Label) : (tickFromSlot0 now l s).bcr = s.bcr := by
  unfold tickFromSlot0; (try dsimp only); (repeat' split) <;> simp
@[simp] theorem tickFromSlot0_bss (now : Nat) (l : Label) : (tickFromSlot0 now l s).bss = s.bss := by
  unfold tickFromSlot0; (try dsimp only); (repeat' split) <;> simp
@[simp] theorem tickFromSlot0_acu (now : Nat) (l : Label) : (tickFromSlot0 now l s).acu = s.acu := by
  unfold tickFromSlot0; (try dsimp only); (repeat' split) <;> simp
@[simp] theorem tickFromSlot0_pending (now : Nat) (l : Label) : (tickFromSlot0 now l s).pending = s.pending := by
  unfold tickFromSlot0; (try dsimp only); (repeat' split) <;> simp

/-! ### emitTick -/

@[simp] theorem emitTick_bcr (now : Nat) (l : Label) : (emitTick now l s).bcr = s.bcr := by
  unfold emitTick; (try dsimp only); (repeat' split) <;> simp
@[simp] theorem emitTick_bss (now : Nat) (l : Label) : (emitTick now l s).bss = s.bss := by
  unfold emitTick; (try dsimp only); (repeat' split) <;> simp
@[simp] theorem emitTick_acu (now : Nat) (l : Label) : (emitTick now l s).acu = s.acu := by
  unfold emitTick; (try dsimp only); (repeat' split) <;> simp
@[simp] theorem emitTick_pending (now : Nat) (l : Label) : (emitTick now l s).pending = s.pending := by
  unfold emitTick; (try dsimp only); (repeat' split) <;> simp

/-! ### emitAll -/

@[simp] theorem emitAll_bcr (now : Nat) : (emitAll now s).bcr = s.bcr := by
  unfold emitAll
  rw [foldl_keep (fun s => s.bcr) _ (by intros; simp)]; simp
@[simp] theorem emitAll_bss (now : Nat) : (emitAll now s).bss = s.bss := by
  unfold emitAll
  rw [foldl_keep (fun s => s.bss) _ (by intros; simp)]; simp
@[simp] theorem emitAll_acu (now : Nat) : (emitAll now s).acu = s.acu := by
  unfold emitAll
  rw [foldl_keep (fun s => s.acu) _ (by intros; simp)]; simp
@[simp] theorem emitAll_pending (now : Nat) : (emitAll now s).pending = s.pending := by
  unfold emitAll
  rw [foldl_keep (fun s => s.pending) _ (by intros; simp)]; simp

/-! ### scheduleTick -/

@[simp] theorem scheduleTick_bcr (now : Nat) (t : Tick) : (scheduleTick now t s).bcr = s.bcr := by
  unfold scheduleTick; (try dsimp only); (repeat' split) <;> simp
@[simp] theorem scheduleTick_bss (now : Nat) (t : Tick) : (scheduleTick now t s).bss = s.bss := by
  unfold scheduleTick; (try dsimp only); (repeat' split) <;> simp
@[simp] theorem scheduleTick_acu (now : Nat) (t : Tick) : (scheduleTick now t s).acu = s.acu := by
  unfold scheduleTick; (try dsimp only); (repeat' split) <;> simp
@[simp] theorem scheduleTick_pending (now : Nat) (t : Tick) : (scheduleTick now t s).pending = s.pending := by
  unfold scheduleTick; (try dsimp only); (repeat' split) <;> simp

/-! ### scheduleHoldover -/

@[simp] theorem scheduleHoldover_bcr (now lp : Nat) (t : Tick) : (scheduleHoldover now lp t s).bcr = s.bcr := by
  unfold scheduleHoldover; (try dsimp only); (repeat' split) <;> simp
@[simp] theorem scheduleHoldover_bss (now lp : Nat) (t : Tick) : (scheduleHoldover now lp t s).bss = s.bss := by
  unfold scheduleHoldover; (try dsimp only); (repeat' split) <;> simp
@[simp] theorem scheduleHoldover_acu (now lp : Nat) (t : Tick) : (scheduleHoldover now lp t s).acu = s.acu := by
  unfold scheduleHoldover; (try dsimp only); (repeat' split) <;> simp
@[simp] theorem scheduleHoldover_pending (now lp : Nat) (t : Tick) : (scheduleHoldover now lp t s).pending = s.pending := by
  unfold scheduleHoldover; (try dsimp only); (repeat' split) <;> simp

end Sys2Proof.Machine
end

