-- ==== Sys2Proof/Laws/Lanes.lean ====
section
/-! SUPPORT. What the operations of the sensor lanes leave as they were, block by block: one lemma for each operation and block. -/

namespace Sys2Proof.Machine

variable (s : State)

/-! ### goodItem -/

@[simp] theorem goodItem_tle (i : Fin 4) : (goodItem i s).tle = s.tle := by
  unfold goodItem; (try dsimp only); (repeat' split) <;> simp
@[simp] theorem goodItem_rtu (i : Fin 4) : (goodItem i s).rtu = s.rtu := by
  unfold goodItem; (try dsimp only); (repeat' split) <;> simp
@[simp] theorem goodItem_las (i : Fin 4) : (goodItem i s).las = s.las := by
  unfold goodItem; (try dsimp only); (repeat' split) <;> simp
@[simp] theorem goodItem_ldu (i : Fin 4) : (goodItem i s).ldu = s.ldu := by
  unfold goodItem; (try dsimp only); (repeat' split) <;> simp
@[simp] theorem goodItem_bcr (i : Fin 4) : (goodItem i s).bcr = s.bcr := by
  unfold goodItem; (try dsimp only); (repeat' split) <;> simp
@[simp] theorem goodItem_bss (i : Fin 4) : (goodItem i s).bss = s.bss := by
  unfold goodItem; (try dsimp only); (repeat' split) <;> simp
@[simp] theorem goodItem_acu (i : Fin 4) : (goodItem i s).acu = s.acu := by
  unfold goodItem; (try dsimp only); (repeat' split) <;> simp
@[simp] theorem goodItem_lma (i : Fin 4) : (goodItem i s).lma = s.lma := by
  unfold goodItem; (try dsimp only); (repeat' split) <;> simp
@[simp] theorem goodItem_out (i : Fin 4) : (goodItem i s).out = s.out := by
  unfold goodItem; (try dsimp only); (repeat' split) <;> simp
@[simp] theorem goodItem_pending (i : Fin 4) : (goodItem i s).pending = s.pending := by
  unfold goodItem; (try dsimp only); (repeat' split) <;> simp

/-! ### laneError -/

@[simp] theorem laneError_tle (i : Fin 4) : (laneError i s).tle = s.tle := by
  unfold laneError; (try dsimp only); (repeat' split) <;> simp
@[simp] theorem laneError_rtu (i : Fin 4) : (laneError i s).rtu = s.rtu := by
  unfold laneError; (try dsimp only); (repeat' split) <;> simp
@[simp] theorem laneError_las (i : Fin 4) : (laneError i s).las = s.las := by
  unfold laneError; (try dsimp only); (repeat' split) <;> simp
@[simp] theorem laneError_ldu (i : Fin 4) : (laneError i s).ldu = s.ldu := by
  unfold laneError; (try dsimp only); (repeat' split) <;> simp
@[simp] theorem laneError_bss (i : Fin 4) : (laneError i s).bss = s.bss := by
  unfold laneError; (try dsimp only); (repeat' split) <;> simp
@[simp] theorem laneError_acu (i : Fin 4) : (laneError i s).acu = s.acu := by
  unfold laneError; (try dsimp only); (repeat' split) <;> simp
@[simp] theorem laneError_pending (i : Fin 4) : (laneError i s).pending = s.pending := by
  unfold laneError; (try dsimp only); (repeat' split) <;> simp

/-! ### takeTile -/

@[simp] theorem takeTile_tle (i : Fin 4) (p : TilePacket) : (takeTile i p s).tle = s.tle := by
  unfold takeTile; (try dsimp only); (repeat' split) <;> simp
@[simp] theorem takeTile_rtu (i : Fin 4) (p : TilePacket) : (takeTile i p s).rtu = s.rtu := by
  unfold takeTile; (try dsimp only); (repeat' split) <;> simp
@[simp] theorem takeTile_ldu (i : Fin 4) (p : TilePacket) : (takeTile i p s).ldu = s.ldu := by
  unfold takeTile; (try dsimp only); (repeat' split) <;> simp
@[simp] theorem takeTile_bss (i : Fin 4) (p : TilePacket) : (takeTile i p s).bss = s.bss := by
  unfold takeTile; (try dsimp only); (repeat' split) <;> simp
@[simp] theorem takeTile_acu (i : Fin 4) (p : TilePacket) : (takeTile i p s).acu = s.acu := by
  unfold takeTile; (try dsimp only); (repeat' split) <;> simp
@[simp] theorem takeTile_pending (i : Fin 4) (p : TilePacket) : (takeTile i p s).pending = s.pending := by
  unfold takeTile; (try dsimp only); (repeat' split) <;> simp

/-! ### takeStatus -/

@[simp] theorem takeStatus_tle (i : Fin 4) (w : LaneBits) : (takeStatus i w s).tle = s.tle := by
  unfold takeStatus; (try dsimp only); (repeat' split) <;> simp
@[simp] theorem takeStatus_rtu (i : Fin 4) (w : LaneBits) : (takeStatus i w s).rtu = s.rtu := by
  unfold takeStatus; (try dsimp only); (repeat' split) <;> simp
@[simp] theorem takeStatus_las (i : Fin 4) (w : LaneBits) : (takeStatus i w s).las = s.las := by
  unfold takeStatus; (try dsimp only); (repeat' split) <;> simp
@[simp] theorem takeStatus_ldu (i : Fin 4) (w : LaneBits) : (takeStatus i w s).ldu = s.ldu := by
  unfold takeStatus; (try dsimp only); (repeat' split) <;> simp
@[simp] theorem takeStatus_bcr (i : Fin 4) (w : LaneBits) : (takeStatus i w s).bcr = s.bcr := by
  unfold takeStatus; (try dsimp only); (repeat' split) <;> simp
@[simp] theorem takeStatus_bss (i : Fin 4) (w : LaneBits) : (takeStatus i w s).bss = s.bss := by
  unfold takeStatus; (try dsimp only); (repeat' split) <;> simp
@[simp] theorem takeStatus_acu (i : Fin 4) (w : LaneBits) : (takeStatus i w s).acu = s.acu := by
  unfold takeStatus; (try dsimp only); (repeat' split) <;> simp
@[simp] theorem takeStatus_out (i : Fin 4) (w : LaneBits) : (takeStatus i w s).out = s.out := by
  unfold takeStatus; (try dsimp only); (repeat' split) <;> simp
@[simp] theorem takeStatus_pending (i : Fin 4) (w : LaneBits) : (takeStatus i w s).pending = s.pending := by
  unfold takeStatus; (try dsimp only); (repeat' split) <;> simp

/-! ### takeAnswer -/

@[simp] theorem takeAnswer_tle (i : Fin 4) (t : Byte) (p : List Byte) : (takeAnswer i t p s).tle = s.tle := by
  unfold takeAnswer; (try dsimp only); (repeat' split) <;> simp
@[simp] theorem takeAnswer_rtu (i : Fin 4) (t : Byte) (p : List Byte) : (takeAnswer i t p s).rtu = s.rtu := by
  unfold takeAnswer; (try dsimp only); (repeat' split) <;> simp
@[simp] theorem takeAnswer_las (i : Fin 4) (t : Byte) (p : List Byte) : (takeAnswer i t p s).las = s.las := by
  unfold takeAnswer; (try dsimp only); (repeat' split) <;> simp
@[simp] theorem takeAnswer_ldu (i : Fin 4) (t : Byte) (p : List Byte) : (takeAnswer i t p s).ldu = s.ldu := by
  unfold takeAnswer; (try dsimp only); (repeat' split) <;> simp
@[simp] theorem takeAnswer_bss (i : Fin 4) (t : Byte) (p : List Byte) : (takeAnswer i t p s).bss = s.bss := by
  unfold takeAnswer; (try dsimp only); (repeat' split) <;> simp
@[simp] theorem takeAnswer_acu (i : Fin 4) (t : Byte) (p : List Byte) : (takeAnswer i t p s).acu = s.acu := by
  unfold takeAnswer; (try dsimp only); (repeat' split) <;> simp
@[simp] theorem takeAnswer_out (i : Fin 4) (t : Byte) (p : List Byte) : (takeAnswer i t p s).out = s.out := by
  unfold takeAnswer; (try dsimp only); (repeat' split) <;> simp
@[simp] theorem takeAnswer_pending (i : Fin 4) (t : Byte) (p : List Byte) : (takeAnswer i t p s).pending = s.pending := by
  unfold takeAnswer; (try dsimp only); (repeat' split) <;> simp

/-! ### badCheckItem -/

@[simp] theorem badCheckItem_tle (i : Fin 4) (b : Bool) : (badCheckItem i b s).tle = s.tle := by
  unfold badCheckItem; (try dsimp only); (repeat' split) <;> simp
@[simp] theorem badCheckItem_rtu (i : Fin 4) (b : Bool) : (badCheckItem i b s).rtu = s.rtu := by
  unfold badCheckItem; (try dsimp only); (repeat' split) <;> simp
@[simp] theorem badCheckItem_las (i : Fin 4) (b : Bool) : (badCheckItem i b s).las = s.las := by
  unfold badCheckItem; (try dsimp only); (repeat' split) <;> simp
@[simp] theorem badCheckItem_ldu (i : Fin 4) (b : Bool) : (badCheckItem i b s).ldu = s.ldu := by
  unfold badCheckItem; (try dsimp only); (repeat' split) <;> simp
@[simp] theorem badCheckItem_bss (i : Fin 4) (b : Bool) : (badCheckItem i b s).bss = s.bss := by
  unfold badCheckItem; (try dsimp only); (repeat' split) <;> simp
@[simp] theorem badCheckItem_acu (i : Fin 4) (b : Bool) : (badCheckItem i b s).acu = s.acu := by
  unfold badCheckItem; (try dsimp only); (repeat' split) <;> simp
@[simp] theorem badCheckItem_pending (i : Fin 4) (b : Bool) : (badCheckItem i b s).pending = s.pending := by
  unfold badCheckItem; (try dsimp only); (repeat' split) <;> simp

/-! ### takeItem -/

@[simp] theorem takeItem_tle (i : Fin 4) (j : Judged) : (takeItem i j s).tle = s.tle := by
  unfold takeItem; (try dsimp only); (repeat' split) <;> simp
@[simp] theorem takeItem_rtu (i : Fin 4) (j : Judged) : (takeItem i j s).rtu = s.rtu := by
  unfold takeItem; (try dsimp only); (repeat' split) <;> simp
@[simp] theorem takeItem_ldu (i : Fin 4) (j : Judged) : (takeItem i j s).ldu = s.ldu := by
  unfold takeItem; (try dsimp only); (repeat' split) <;> simp
@[simp] theorem takeItem_bss (i : Fin 4) (j : Judged) : (takeItem i j s).bss = s.bss := by
  unfold takeItem; (try dsimp only); (repeat' split) <;> simp
@[simp] theorem takeItem_acu (i : Fin 4) (j : Judged) : (takeItem i j s).acu = s.acu := by
  unfold takeItem; (try dsimp only); (repeat' split) <;> simp
@[simp] theorem takeItem_pending (i : Fin 4) (j : Judged) : (takeItem i j s).pending = s.pending := by
  unfold takeItem; (try dsimp only); (repeat' split) <;> simp

/-! ### laneUp -/

@[simp] theorem laneUp_tle (i : Fin 4) : (laneUp i s).tle = s.tle := by
  unfold laneUp; (try dsimp only); (repeat' split) <;> simp
@[simp] theorem laneUp_rtu (i : Fin 4) : (laneUp i s).rtu = s.rtu := by
  unfold laneUp; (try dsimp only); (repeat' split) <;> simp
@[simp] theorem laneUp_las (i : Fin 4) : (laneUp i s).las = s.las := by
  unfold laneUp; (try dsimp only); (repeat' split) <;> simp
@[simp] theorem laneUp_ldu (i : Fin 4) : (laneUp i s).ldu = s.ldu := by
  unfold laneUp; (try dsimp only); (repeat' split) <;> simp
@[simp] theorem laneUp_bss (i : Fin 4) : (laneUp i s).bss = s.bss := by
  unfold laneUp; (try dsimp only); (repeat' split) <;> simp
@[simp] theorem laneUp_acu (i : Fin 4) : (laneUp i s).acu = s.acu := by
  unfold laneUp; (try dsimp only); (repeat' split) <;> simp
@[simp] theorem laneUp_pending (i : Fin 4) : (laneUp i s).pending = s.pending := by
  unfold laneUp; (try dsimp only); (repeat' split) <;> simp

/-! ### takeAligningWord -/

@[simp] theorem takeAligningWord_tle (i : Fin 4) (w : LaneWord) : (takeAligningWord i w s).tle = s.tle := by
  unfold takeAligningWord; (try dsimp only); (repeat' split) <;> simp
@[simp] theorem takeAligningWord_rtu (i : Fin 4) (w : LaneWord) : (takeAligningWord i w s).rtu = s.rtu := by
  unfold takeAligningWord; (try dsimp only); (repeat' split) <;> simp
@[simp] theorem takeAligningWord_las (i : Fin 4) (w : LaneWord) : (takeAligningWord i w s).las = s.las := by
  unfold takeAligningWord; (try dsimp only); (repeat' split) <;> simp
@[simp] theorem takeAligningWord_ldu (i : Fin 4) (w : LaneWord) : (takeAligningWord i w s).ldu = s.ldu := by
  unfold takeAligningWord; (try dsimp only); (repeat' split) <;> simp
@[simp] theorem takeAligningWord_bss (i : Fin 4) (w : LaneWord) : (takeAligningWord i w s).bss = s.bss := by
  unfold takeAligningWord; (try dsimp only); (repeat' split) <;> simp
@[simp] theorem takeAligningWord_acu (i : Fin 4) (w : LaneWord) : (takeAligningWord i w s).acu = s.acu := by
  unfold takeAligningWord; (try dsimp only); (repeat' split) <;> simp
@[simp] theorem takeAligningWord_pending (i : Fin 4) (w : LaneWord) : (takeAligningWord i w s).pending = s.pending := by
  unfold takeAligningWord; (try dsimp only); (repeat' split) <;> simp

/-! ### alignmentExpired -/

@[simp] theorem alignmentExpired_tle (i : Fin 4) : (alignmentExpired i s).tle = s.tle := by
  unfold alignmentExpired; (try dsimp only); (repeat' split) <;> simp
@[simp] theorem alignmentExpired_rtu (i : Fin 4) : (alignmentExpired i s).rtu = s.rtu := by
  unfold alignmentExpired; (try dsimp only); (repeat' split) <;> simp
@[simp] theorem alignmentExpired_las (i : Fin 4) : (alignmentExpired i s).las = s.las := by
  unfold alignmentExpired; (try dsimp only); (repeat' split) <;> simp
@[simp] theorem alignmentExpired_ldu (i : Fin 4) : (alignmentExpired i s).ldu = s.ldu := by
  unfold alignmentExpired; (try dsimp only); (repeat' split) <;> simp
@[simp] theorem alignmentExpired_bss (i : Fin 4) : (alignmentExpired i s).bss = s.bss := by
  unfold alignmentExpired; (try dsimp only); (repeat' split) <;> simp
@[simp] theorem alignmentExpired_acu (i : Fin 4) : (alignmentExpired i s).acu = s.acu := by
  unfold alignmentExpired; (try dsimp only); (repeat' split) <;> simp
@[simp] theorem alignmentExpired_pending (i : Fin 4) : (alignmentExpired i s).pending = s.pending := by
  unfold alignmentExpired; (try dsimp only); (repeat' split) <;> simp

/-! ### answerExpired -/

@[simp] theorem answerExpired_tle (i : Fin 4) (r : Request) : (answerExpired i r s).tle = s.tle := by
  unfold answerExpired; (try dsimp only); (repeat' split) <;> simp
@[simp] theorem answerExpired_rtu (i : Fin 4) (r : Request) : (answerExpired i r s).rtu = s.rtu := by
  unfold answerExpired; (try dsimp only); (repeat' split) <;> simp
@[simp] theorem answerExpired_slr (i : Fin 4) (r : Request) : (answerExpired i r s).slr = s.slr := by
  unfold answerExpired; (try dsimp only); (repeat' split) <;> simp
@[simp] theorem answerExpired_las (i : Fin 4) (r : Request) : (answerExpired i r s).las = s.las := by
  unfold answerExpired; (try dsimp only); (repeat' split) <;> simp
@[simp] theorem answerExpired_ldu (i : Fin 4) (r : Request) : (answerExpired i r s).ldu = s.ldu := by
  unfold answerExpired; (try dsimp only); (repeat' split) <;> simp
@[simp] theorem answerExpired_bss (i : Fin 4) (r : Request) : (answerExpired i r s).bss = s.bss := by
  unfold answerExpired; (try dsimp only); (repeat' split) <;> simp
@[simp] theorem answerExpired_acu (i : Fin 4) (r : Request) : (answerExpired i r s).acu = s.acu := by
  unfold answerExpired; (try dsimp only); (repeat' split) <;> simp
@[simp] theorem answerExpired_pending (i : Fin 4) (r : Request) : (answerExpired i r s).pending = s.pending := by
  unfold answerExpired; (try dsimp only); (repeat' split) <;> simp

/-! ### resetLaneReceiver -/

@[simp] theorem resetLaneReceiver_tle (i : Fin 4) : (resetLaneReceiver i s).tle = s.tle := by
  unfold resetLaneReceiver; (try dsimp only); (repeat' split) <;> simp
@[simp] theorem resetLaneReceiver_rtu (i : Fin 4) : (resetLaneReceiver i s).rtu = s.rtu := by
  unfold resetLaneReceiver; (try dsimp only); (repeat' split) <;> simp
@[simp] theorem resetLaneReceiver_las (i : Fin 4) : (resetLaneReceiver i s).las = s.las := by
  unfold resetLaneReceiver; (try dsimp only); (repeat' split) <;> simp
@[simp] theorem resetLaneReceiver_ldu (i : Fin 4) : (resetLaneReceiver i s).ldu = s.ldu := by
  unfold resetLaneReceiver; (try dsimp only); (repeat' split) <;> simp
@[simp] theorem resetLaneReceiver_bss (i : Fin 4) : (resetLaneReceiver i s).bss = s.bss := by
  unfold resetLaneReceiver; (try dsimp only); (repeat' split) <;> simp
@[simp] theorem resetLaneReceiver_acu (i : Fin 4) : (resetLaneReceiver i s).acu = s.acu := by
  unfold resetLaneReceiver; (try dsimp only); (repeat' split) <;> simp
@[simp] theorem resetLaneReceiver_pending (i : Fin 4) : (resetLaneReceiver i s).pending = s.pending := by
  unfold resetLaneReceiver; (try dsimp only); (repeat' split) <;> simp

/-! ### clearLaneReceiver -/

@[simp] theorem clearLaneReceiver_tle (i : Fin 4) : (clearLaneReceiver i s).tle = s.tle := by
  unfold clearLaneReceiver; (try dsimp only); (repeat' split) <;> simp
@[simp] theorem clearLaneReceiver_rtu (i : Fin 4) : (clearLaneReceiver i s).rtu = s.rtu := by
  unfold clearLaneReceiver; (try dsimp only); (repeat' split) <;> simp
@[simp] theorem clearLaneReceiver_las (i : Fin 4) : (clearLaneReceiver i s).las = s.las := by
  unfold clearLaneReceiver; (try dsimp only); (repeat' split) <;> simp
@[simp] theorem clearLaneReceiver_ldu (i : Fin 4) : (clearLaneReceiver i s).ldu = s.ldu := by
  unfold clearLaneReceiver; (try dsimp only); (repeat' split) <;> simp
@[simp] theorem clearLaneReceiver_bss (i : Fin 4) : (clearLaneReceiver i s).bss = s.bss := by
  unfold clearLaneReceiver; (try dsimp only); (repeat' split) <;> simp
@[simp] theorem clearLaneReceiver_acu (i : Fin 4) : (clearLaneReceiver i s).acu = s.acu := by
  unfold clearLaneReceiver; (try dsimp only); (repeat' split) <;> simp
@[simp] theorem clearLaneReceiver_lma (i : Fin 4) : (clearLaneReceiver i s).lma = s.lma := by
  unfold clearLaneReceiver; (try dsimp only); (repeat' split) <;> simp
@[simp] theorem clearLaneReceiver_out (i : Fin 4) : (clearLaneReceiver i s).out = s.out := by
  unfold clearLaneReceiver; (try dsimp only); (repeat' split) <;> simp
@[simp] theorem clearLaneReceiver_pending (i : Fin 4) : (clearLaneReceiver i s).pending = s.pending := by
  unfold clearLaneReceiver; (try dsimp only); (repeat' split) <;> simp

end Sys2Proof.Machine
end

