-- ==== Sys2Proof/Laws/Supply.lean ====
section
/-! SUPPORT. What the operations of the supplies leave as they were, block by block: one lemma for each operation and block. -/

namespace Sys2Proof.Machine

variable (s : State)

/-! ### mapOutput -/

@[simp] theorem mapOutput_tle (n : Fin 6) (f : Supply → Supply) : (s.mapOutput n f).tle = s.tle := by
  simp [State.mapOutput]
@[simp] theorem mapOutput_rtu (n : Fin 6) (f : Supply → Supply) : (s.mapOutput n f).rtu = s.rtu := by
  simp [State.mapOutput]
@[simp] theorem mapOutput_slr (n : Fin 6) (f : Supply → Supply) : (s.mapOutput n f).slr = s.slr := by
  simp [State.mapOutput]
@[simp] theorem mapOutput_las (n : Fin 6) (f : Supply → Supply) : (s.mapOutput n f).las = s.las := by
  simp [State.mapOutput]
@[simp] theorem mapOutput_ldu (n : Fin 6) (f : Supply → Supply) : (s.mapOutput n f).ldu = s.ldu := by
  simp [State.mapOutput]
@[simp] theorem mapOutput_bcr (n : Fin 6) (f : Supply → Supply) : (s.mapOutput n f).bcr = s.bcr := by
  simp [State.mapOutput]
@[simp] theorem mapOutput_acu (n : Fin 6) (f : Supply → Supply) : (s.mapOutput n f).acu = s.acu := by
  simp [State.mapOutput]
@[simp] theorem mapOutput_lma (n : Fin 6) (f : Supply → Supply) : (s.mapOutput n f).lma = s.lma := by
  simp [State.mapOutput]
@[simp] theorem mapOutput_out (n : Fin 6) (f : Supply → Supply) : (s.mapOutput n f).out = s.out := by
  simp [State.mapOutput]
@[simp] theorem mapOutput_pending (n : Fin 6) (f : Supply → Supply) : (s.mapOutput n f).pending = s.pending := by
  simp [State.mapOutput]

/-! ### outputGood -/

@[simp] theorem outputGood_tle (n : Fin 6) : (outputGood n s).tle = s.tle := by
  unfold outputGood; (try dsimp only); (repeat' split) <;> simp
@[simp] theorem outputGood_rtu (n : Fin 6) : (outputGood n s).rtu = s.rtu := by
  unfold outputGood; (try dsimp only); (repeat' split) <;> simp
@[simp] theorem outputGood_las (n : Fin 6) : (outputGood n s).las = s.las := by
  unfold outputGood; (try dsimp only); (repeat' split) <;> simp
@[simp] theorem outputGood_ldu (n : Fin 6) : (outputGood n s).ldu = s.ldu := by
  unfold outputGood; (try dsimp only); (repeat' split) <;> simp
@[simp] theorem outputGood_acu (n : Fin 6) : (outputGood n s).acu = s.acu := by
  unfold outputGood; (try dsimp only); (repeat' split) <;> simp
@[simp] theorem outputGood_pending (n : Fin 6) : (outputGood n s).pending = s.pending := by
  unfold outputGood; (try dsimp only); (repeat' split) <;> simp

/-! ### reportLost -/

@[simp] theorem reportLost_tle (n : Fin 6) : (reportLost n s).tle = s.tle := by
  unfold reportLost; (try dsimp only); (repeat' split) <;> simp
@[simp] theorem reportLost_rtu (n : Fin 6) : (reportLost n s).rtu = s.rtu := by
  unfold reportLost; (try dsimp only); (repeat' split) <;> simp
@[simp] theorem reportLost_las (n : Fin 6) : (reportLost n s).las = s.las := by
  unfold reportLost; (try dsimp only); (repeat' split) <;> simp
@[simp] theorem reportLost_ldu (n : Fin 6) : (reportLost n s).ldu = s.ldu := by
  unfold reportLost; (try dsimp only); (repeat' split) <;> simp
@[simp] theorem reportLost_bss (n : Fin 6) : (reportLost n s).bss = s.bss := by
  unfold reportLost; (try dsimp only); (repeat' split) <;> simp
@[simp] theorem reportLost_acu (n : Fin 6) : (reportLost n s).acu = s.acu := by
  unfold reportLost; (try dsimp only); (repeat' split) <;> simp
@[simp] theorem reportLost_pending (n : Fin 6) : (reportLost n s).pending = s.pending := by
  unfold reportLost; (try dsimp only); (repeat' split) <;> simp

/-! ### enableOutput -/

@[simp] theorem enableOutput_tle (n : Fin 6) : (enableOutput n s).tle = s.tle := by
  unfold enableOutput; (try dsimp only); (repeat' split) <;> simp
@[simp] theorem enableOutput_rtu (n : Fin 6) : (enableOutput n s).rtu = s.rtu := by
  unfold enableOutput; (try dsimp only); (repeat' split) <;> simp
@[simp] theorem enableOutput_las (n : Fin 6) : (enableOutput n s).las = s.las := by
  unfold enableOutput; (try dsimp only); (repeat' split) <;> simp
@[simp] theorem enableOutput_ldu (n : Fin 6) : (enableOutput n s).ldu = s.ldu := by
  unfold enableOutput; (try dsimp only); (repeat' split) <;> simp
@[simp] theorem enableOutput_acu (n : Fin 6) : (enableOutput n s).acu = s.acu := by
  unfold enableOutput; (try dsimp only); (repeat' split) <;> simp
@[simp] theorem enableOutput_pending (n : Fin 6) : (enableOutput n s).pending = s.pending := by
  unfold enableOutput; (try dsimp only); (repeat' split) <;> simp

/-! ### disableOutput -/

@[simp] theorem disableOutput_tle (n : Fin 6) : (disableOutput n s).tle = s.tle := by
  unfold disableOutput; (try dsimp only); (repeat' split) <;> simp
@[simp] theorem disableOutput_rtu (n : Fin 6) : (disableOutput n s).rtu = s.rtu := by
  unfold disableOutput; (try dsimp only); (repeat' split) <;> simp
@[simp] theorem disableOutput_las (n : Fin 6) : (disableOutput n s).las = s.las := by
  unfold disableOutput; (try dsimp only); (repeat' split) <;> simp
@[simp] theorem disableOutput_ldu (n : Fin 6) : (disableOutput n s).ldu = s.ldu := by
  unfold disableOutput; (try dsimp only); (repeat' split) <;> simp
@[simp] theorem disableOutput_acu (n : Fin 6) : (disableOutput n s).acu = s.acu := by
  unfold disableOutput; (try dsimp only); (repeat' split) <;> simp
@[simp] theorem disableOutput_pending (n : Fin 6) : (disableOutput n s).pending = s.pending := by
  unfold disableOutput; (try dsimp only); (repeat' split) <;> simp

/-! ### enableStrobe -/

@[simp] theorem enableStrobe_tle (k : Nat) : (enableStrobe k s).tle = s.tle := by
  unfold enableStrobe
  rw [foldl_keep (fun s => s.tle) _ (by intros; split <;> simp)]
@[simp] theorem enableStrobe_rtu (k : Nat) : (enableStrobe k s).rtu = s.rtu := by
  unfold enableStrobe
  rw [foldl_keep (fun s => s.rtu) _ (by intros; split <;> simp)]
@[simp] theorem enableStrobe_las (k : Nat) : (enableStrobe k s).las = s.las := by
  unfold enableStrobe
  rw [foldl_keep (fun s => s.las) _ (by intros; split <;> simp)]
@[simp] theorem enableStrobe_ldu (k : Nat) : (enableStrobe k s).ldu = s.ldu := by
  unfold enableStrobe
  rw [foldl_keep (fun s => s.ldu) _ (by intros; split <;> simp)]
@[simp] theorem enableStrobe_acu (k : Nat) : (enableStrobe k s).acu = s.acu := by
  unfold enableStrobe
  rw [foldl_keep (fun s => s.acu) _ (by intros; split <;> simp)]
@[simp] theorem enableStrobe_pending (k : Nat) : (enableStrobe k s).pending = s.pending := by
  unfold enableStrobe
  rw [foldl_keep (fun s => s.pending) _ (by intros; split <;> simp)]

/-! ### disableStrobe -/

@[simp] theorem disableStrobe_tle (k : Nat) : (disableStrobe k s).tle = s.tle := by
  unfold disableStrobe
  rw [foldl_keep (fun s => s.tle) _ (by intros; split <;> simp)]
@[simp] theorem disableStrobe_rtu (k : Nat) : (disableStrobe k s).rtu = s.rtu := by
  unfold disableStrobe
  rw [foldl_keep (fun s => s.rtu) _ (by intros; split <;> simp)]
@[simp] theorem disableStrobe_las (k : Nat) : (disableStrobe k s).las = s.las := by
  unfold disableStrobe
  rw [foldl_keep (fun s => s.las) _ (by intros; split <;> simp)]
@[simp] theorem disableStrobe_ldu (k : Nat) : (disableStrobe k s).ldu = s.ldu := by
  unfold disableStrobe
  rw [foldl_keep (fun s => s.ldu) _ (by intros; split <;> simp)]
@[simp] theorem disableStrobe_acu (k : Nat) : (disableStrobe k s).acu = s.acu := by
  unfold disableStrobe
  rw [foldl_keep (fun s => s.acu) _ (by intros; split <;> simp)]
@[simp] theorem disableStrobe_pending (k : Nat) : (disableStrobe k s).pending = s.pending := by
  unfold disableStrobe
  rw [foldl_keep (fun s => s.pending) _ (by intros; split <;> simp)]

/-! ### setRamp -/

@[simp] theorem setRamp_tle (a : Option Nat) (d : Option (Fin 4)) : (setRamp a d s).tle = s.tle := by
  unfold setRamp; (try dsimp only); (repeat' split) <;> simp
@[simp] theorem setRamp_rtu (a : Option Nat) (d : Option (Fin 4)) : (setRamp a d s).rtu = s.rtu := by
  unfold setRamp; (try dsimp only); (repeat' split) <;> simp
@[simp] theorem setRamp_slr (a : Option Nat) (d : Option (Fin 4)) : (setRamp a d s).slr = s.slr := by
  unfold setRamp; (try dsimp only); (repeat' split) <;> simp
@[simp] theorem setRamp_las (a : Option Nat) (d : Option (Fin 4)) : (setRamp a d s).las = s.las := by
  unfold setRamp; (try dsimp only); (repeat' split) <;> simp
@[simp] theorem setRamp_ldu (a : Option Nat) (d : Option (Fin 4)) : (setRamp a d s).ldu = s.ldu := by
  unfold setRamp; (try dsimp only); (repeat' split) <;> simp
@[simp] theorem setRamp_bcr (a : Option Nat) (d : Option (Fin 4)) : (setRamp a d s).bcr = s.bcr := by
  unfold setRamp; (try dsimp only); (repeat' split) <;> simp
@[simp] theorem setRamp_acu (a : Option Nat) (d : Option (Fin 4)) : (setRamp a d s).acu = s.acu := by
  unfold setRamp; (try dsimp only); (repeat' split) <;> simp
@[simp] theorem setRamp_lma (a : Option Nat) (d : Option (Fin 4)) : (setRamp a d s).lma = s.lma := by
  unfold setRamp; (try dsimp only); (repeat' split) <;> simp
@[simp] theorem setRamp_out (a : Option Nat) (d : Option (Fin 4)) : (setRamp a d s).out = s.out := by
  unfold setRamp; (try dsimp only); (repeat' split) <;> simp
@[simp] theorem setRamp_pending (a : Option Nat) (d : Option (Fin 4)) : (setRamp a d s).pending = s.pending := by
  unfold setRamp; (try dsimp only); (repeat' split) <;> simp

/-! ### setPower -/

@[simp] theorem setPower_tle (p : PowerState) : (setPower p s).tle = s.tle := by
  unfold setPower; (try dsimp only); (repeat' split) <;> simp
@[simp] theorem setPower_rtu (p : PowerState) : (setPower p s).rtu = s.rtu := by
  unfold setPower; (try dsimp only); (repeat' split) <;> simp
@[simp] theorem setPower_slr (p : PowerState) : (setPower p s).slr = s.slr := by
  unfold setPower; (try dsimp only); (repeat' split) <;> simp
@[simp] theorem setPower_las (p : PowerState) : (setPower p s).las = s.las := by
  unfold setPower; (try dsimp only); (repeat' split) <;> simp
@[simp] theorem setPower_ldu (p : PowerState) : (setPower p s).ldu = s.ldu := by
  unfold setPower; (try dsimp only); (repeat' split) <;> simp
@[simp] theorem setPower_bcr (p : PowerState) : (setPower p s).bcr = s.bcr := by
  unfold setPower; (try dsimp only); (repeat' split) <;> simp
@[simp] theorem setPower_acu (p : PowerState) : (setPower p s).acu = s.acu := by
  unfold setPower; (try dsimp only); (repeat' split) <;> simp
@[simp] theorem setPower_out (p : PowerState) : (setPower p s).out = s.out := by
  unfold setPower; (try dsimp only); (repeat' split) <;> simp
@[simp] theorem setPower_pending (p : PowerState) : (setPower p s).pending = s.pending := by
  unfold setPower; (try dsimp only); (repeat' split) <;> simp

/-! ### testRunning -/

@[simp] theorem testRunning_tle : (testRunning s).tle = s.tle := by
  unfold testRunning; (try dsimp only); (repeat' split) <;> simp
@[simp] theorem testRunning_rtu : (testRunning s).rtu = s.rtu := by
  unfold testRunning; (try dsimp only); (repeat' split) <;> simp
@[simp] theorem testRunning_slr : (testRunning s).slr = s.slr := by
  unfold testRunning; (try dsimp only); (repeat' split) <;> simp
@[simp] theorem testRunning_las : (testRunning s).las = s.las := by
  unfold testRunning; (try dsimp only); (repeat' split) <;> simp
@[simp] theorem testRunning_ldu : (testRunning s).ldu = s.ldu := by
  unfold testRunning; (try dsimp only); (repeat' split) <;> simp
@[simp] theorem testRunning_bcr : (testRunning s).bcr = s.bcr := by
  unfold testRunning; (try dsimp only); (repeat' split) <;> simp
@[simp] theorem testRunning_acu : (testRunning s).acu = s.acu := by
  unfold testRunning; (try dsimp only); (repeat' split) <;> simp
@[simp] theorem testRunning_out : (testRunning s).out = s.out := by
  unfold testRunning; (try dsimp only); (repeat' split) <;> simp
@[simp] theorem testRunning_pending : (testRunning s).pending = s.pending := by
  unfold testRunning; (try dsimp only); (repeat' split) <;> simp

/-! ### runUp -/

@[simp] theorem runUp_tle (r : Nat) : (runUp r s).tle = s.tle := by
  induction r generalizing s with
  | zero => simp [runUp]
  | succ k ih => simp only [runUp]; (repeat' split) <;> simp [ih]
@[simp] theorem runUp_rtu (r : Nat) : (runUp r s).rtu = s.rtu := by
  induction r generalizing s with
  | zero => simp [runUp]
  | succ k ih => simp only [runUp]; (repeat' split) <;> simp [ih]
@[simp] theorem runUp_las (r : Nat) : (runUp r s).las = s.las := by
  induction r generalizing s with
  | zero => simp [runUp]
  | succ k ih => simp only [runUp]; (repeat' split) <;> simp [ih]
@[simp] theorem runUp_ldu (r : Nat) : (runUp r s).ldu = s.ldu := by
  induction r generalizing s with
  | zero => simp [runUp]
  | succ k ih => simp only [runUp]; (repeat' split) <;> simp [ih]
@[simp] theorem runUp_acu (r : Nat) : (runUp r s).acu = s.acu := by
  induction r generalizing s with
  | zero => simp [runUp]
  | succ k ih => simp only [runUp]; (repeat' split) <;> simp [ih]
@[simp] theorem runUp_pending (r : Nat) : (runUp r s).pending = s.pending := by
  induction r generalizing s with
  | zero => simp [runUp]
  | succ k ih => simp only [runUp]; (repeat' split) <;> simp [ih]

/-! ### runDown -/

@[simp] theorem runDown_tle (r : Nat) : (runDown r s).tle = s.tle := by
  induction r generalizing s with
  | zero => simp [runDown]
  | succ k ih => simp only [runDown]; (repeat' split) <;> simp [ih]
@[simp] theorem runDown_rtu (r : Nat) : (runDown r s).rtu = s.rtu := by
  induction r generalizing s with
  | zero => simp [runDown]
  | succ k ih => simp only [runDown]; (repeat' split) <;> simp [ih]
@[simp] theorem runDown_las (r : Nat) : (runDown r s).las = s.las := by
  induction r generalizing s with
  | zero => simp [runDown]
  | succ k ih => simp only [runDown]; (repeat' split) <;> simp [ih]
@[simp] theorem runDown_ldu (r : Nat) : (runDown r s).ldu = s.ldu := by
  induction r generalizing s with
  | zero => simp [runDown]
  | succ k ih => simp only [runDown]; (repeat' split) <;> simp [ih]
@[simp] theorem runDown_acu (r : Nat) : (runDown r s).acu = s.acu := by
  induction r generalizing s with
  | zero => simp [runDown]
  | succ k ih => simp only [runDown]; (repeat' split) <;> simp [ih]
@[simp] theorem runDown_pending (r : Nat) : (runDown r s).pending = s.pending := by
  induction r generalizing s with
  | zero => simp [runDown]
  | succ k ih => simp only [runDown]; (repeat' split) <;> simp [ih]

/-! ### upStrobe -/

@[simp] theorem upStrobe_tle (k : Nat) : (upStrobe k s).tle = s.tle := by
  unfold upStrobe; (try dsimp only); (repeat' split) <;> simp
@[simp] theorem upStrobe_rtu (k : Nat) : (upStrobe k s).rtu = s.rtu := by
  unfold upStrobe; (try dsimp only); (repeat' split) <;> simp
@[simp] theorem upStrobe_las (k : Nat) : (upStrobe k s).las = s.las := by
  unfold upStrobe; (try dsimp only); (repeat' split) <;> simp
@[simp] theorem upStrobe_ldu (k : Nat) : (upStrobe k s).ldu = s.ldu := by
  unfold upStrobe; (try dsimp only); (repeat' split) <;> simp
@[simp] theorem upStrobe_acu (k : Nat) : (upStrobe k s).acu = s.acu := by
  unfold upStrobe; (try dsimp only); (repeat' split) <;> simp
@[simp] theorem upStrobe_pending (k : Nat) : (upStrobe k s).pending = s.pending := by
  unfold upStrobe; (try dsimp only); (repeat' split) <;> simp

/-! ### beginRampDown -/

@[simp] theorem beginRampDown_tle (c : RampCause) : (beginRampDown c s).tle = s.tle := by
  unfold beginRampDown; (try dsimp only); (repeat' split) <;> simp
@[simp] theorem beginRampDown_rtu (c : RampCause) : (beginRampDown c s).rtu = s.rtu := by
  unfold beginRampDown; (try dsimp only); (repeat' split) <;> simp
@[simp] theorem beginRampDown_las (c : RampCause) : (beginRampDown c s).las = s.las := by
  unfold beginRampDown; (try dsimp only); (repeat' split) <;> simp
@[simp] theorem beginRampDown_ldu (c : RampCause) : (beginRampDown c s).ldu = s.ldu := by
  unfold beginRampDown; (try dsimp only); (repeat' split) <;> simp
@[simp] theorem beginRampDown_acu (c : RampCause) : (beginRampDown c s).acu = s.acu := by
  unfold beginRampDown; (try dsimp only); (repeat' split) <;> simp
@[simp] theorem beginRampDown_pending (c : RampCause) : (beginRampDown c s).pending = s.pending := by
  unfold beginRampDown; (try dsimp only); (repeat' split) <;> simp

/-! ### beginRampUp -/

@[simp] theorem beginRampUp_tle : (beginRampUp s).tle = s.tle := by
  unfold beginRampUp; (try dsimp only); (repeat' split) <;> simp
@[simp] theorem beginRampUp_rtu : (beginRampUp s).rtu = s.rtu := by
  unfold beginRampUp; (try dsimp only); (repeat' split) <;> simp
@[simp] theorem beginRampUp_las : (beginRampUp s).las = s.las := by
  unfold beginRampUp; (try dsimp only); (repeat' split) <;> simp
@[simp] theorem beginRampUp_ldu : (beginRampUp s).ldu = s.ldu := by
  unfold beginRampUp; (try dsimp only); (repeat' split) <;> simp
@[simp] theorem beginRampUp_acu : (beginRampUp s).acu = s.acu := by
  unfold beginRampUp; (try dsimp only); (repeat' split) <;> simp
@[simp] theorem beginRampUp_pending : (beginRampUp s).pending = s.pending := by
  unfold beginRampUp; (try dsimp only); (repeat' split) <;> simp

/-! ### upDelayExpired -/

@[simp] theorem upDelayExpired_tle : (upDelayExpired s).tle = s.tle := by
  unfold upDelayExpired; (try dsimp only); (repeat' split) <;> simp
@[simp] theorem upDelayExpired_rtu : (upDelayExpired s).rtu = s.rtu := by
  unfold upDelayExpired; (try dsimp only); (repeat' split) <;> simp
@[simp] theorem upDelayExpired_las : (upDelayExpired s).las = s.las := by
  unfold upDelayExpired; (try dsimp only); (repeat' split) <;> simp
@[simp] theorem upDelayExpired_ldu : (upDelayExpired s).ldu = s.ldu := by
  unfold upDelayExpired; (try dsimp only); (repeat' split) <;> simp
@[simp] theorem upDelayExpired_acu : (upDelayExpired s).acu = s.acu := by
  unfold upDelayExpired; (try dsimp only); (repeat' split) <;> simp
@[simp] theorem upDelayExpired_pending : (upDelayExpired s).pending = s.pending := by
  unfold upDelayExpired; (try dsimp only); (repeat' split) <;> simp

/-! ### downDelayExpired -/

@[simp] theorem downDelayExpired_tle : (downDelayExpired s).tle = s.tle := by
  unfold downDelayExpired; (try dsimp only); (repeat' split) <;> simp
@[simp] theorem downDelayExpired_rtu : (downDelayExpired s).rtu = s.rtu := by
  unfold downDelayExpired; (try dsimp only); (repeat' split) <;> simp
@[simp] theorem downDelayExpired_las : (downDelayExpired s).las = s.las := by
  unfold downDelayExpired; (try dsimp only); (repeat' split) <;> simp
@[simp] theorem downDelayExpired_ldu : (downDelayExpired s).ldu = s.ldu := by
  unfold downDelayExpired; (try dsimp only); (repeat' split) <;> simp
@[simp] theorem downDelayExpired_acu : (downDelayExpired s).acu = s.acu := by
  unfold downDelayExpired; (try dsimp only); (repeat' split) <;> simp
@[simp] theorem downDelayExpired_pending : (downDelayExpired s).pending = s.pending := by
  unfold downDelayExpired; (try dsimp only); (repeat' split) <;> simp

/-! ### lateRunningTest -/

@[simp] theorem lateRunningTest_tle : (lateRunningTest s).tle = s.tle := by
  unfold lateRunningTest; (try dsimp only); (repeat' split) <;> simp
@[simp] theorem lateRunningTest_rtu : (lateRunningTest s).rtu = s.rtu := by
  unfold lateRunningTest; (try dsimp only); (repeat' split) <;> simp
@[simp] theorem lateRunningTest_slr : (lateRunningTest s).slr = s.slr := by
  unfold lateRunningTest; (try dsimp only); (repeat' split) <;> simp
@[simp] theorem lateRunningTest_las : (lateRunningTest s).las = s.las := by
  unfold lateRunningTest; (try dsimp only); (repeat' split) <;> simp
@[simp] theorem lateRunningTest_ldu : (lateRunningTest s).ldu = s.ldu := by
  unfold lateRunningTest; (try dsimp only); (repeat' split) <;> simp
@[simp] theorem lateRunningTest_bcr : (lateRunningTest s).bcr = s.bcr := by
  unfold lateRunningTest; (try dsimp only); (repeat' split) <;> simp
@[simp] theorem lateRunningTest_acu : (lateRunningTest s).acu = s.acu := by
  unfold lateRunningTest; (try dsimp only); (repeat' split) <;> simp
@[simp] theorem lateRunningTest_out : (lateRunningTest s).out = s.out := by
  unfold lateRunningTest; (try dsimp only); (repeat' split) <;> simp
@[simp] theorem lateRunningTest_pending : (lateRunningTest s).pending = s.pending := by
  unfold lateRunningTest; (try dsimp only); (repeat' split) <;> simp

/-! ### inputRises -/

@[simp] theorem inputRises_tle (n : Fin 6) : (inputRises n s).tle = s.tle := by
  unfold inputRises; (try dsimp only); (repeat' split) <;> simp
@[simp] theorem inputRises_rtu (n : Fin 6) : (inputRises n s).rtu = s.rtu := by
  unfold inputRises; (try dsimp only); (repeat' split) <;> simp
@[simp] theorem inputRises_las (n : Fin 6) : (inputRises n s).las = s.las := by
  unfold inputRises; (try dsimp only); (repeat' split) <;> simp
@[simp] theorem inputRises_ldu (n : Fin 6) : (inputRises n s).ldu = s.ldu := by
  unfold inputRises; (try dsimp only); (repeat' split) <;> simp
@[simp] theorem inputRises_acu (n : Fin 6) : (inputRises n s).acu = s.acu := by
  unfold inputRises; (try dsimp only); (repeat' split) <;> simp
@[simp] theorem inputRises_pending (n : Fin 6) : (inputRises n s).pending = s.pending := by
  unfold inputRises; (try dsimp only); (repeat' split) <;> simp

/-! ### inputFalls -/

@[simp] theorem inputFalls_tle (n : Fin 6) : (inputFalls n s).tle = s.tle := by
  unfold inputFalls; (try dsimp only); (repeat' split) <;> simp
@[simp] theorem inputFalls_rtu (n : Fin 6) : (inputFalls n s).rtu = s.rtu := by
  unfold inputFalls; (try dsimp only); (repeat' split) <;> simp
@[simp] theorem inputFalls_slr (n : Fin 6) : (inputFalls n s).slr = s.slr := by
  unfold inputFalls; (try dsimp only); (repeat' split) <;> simp
@[simp] theorem inputFalls_las (n : Fin 6) : (inputFalls n s).las = s.las := by
  unfold inputFalls; (try dsimp only); (repeat' split) <;> simp
@[simp] theorem inputFalls_ldu (n : Fin 6) : (inputFalls n s).ldu = s.ldu := by
  unfold inputFalls; (try dsimp only); (repeat' split) <;> simp
@[simp] theorem inputFalls_bcr (n : Fin 6) : (inputFalls n s).bcr = s.bcr := by
  unfold inputFalls; (try dsimp only); (repeat' split) <;> simp
@[simp] theorem inputFalls_acu (n : Fin 6) : (inputFalls n s).acu = s.acu := by
  unfold inputFalls; (try dsimp only); (repeat' split) <;> simp
@[simp] theorem inputFalls_lma (n : Fin 6) : (inputFalls n s).lma = s.lma := by
  unfold inputFalls; (try dsimp only); (repeat' split) <;> simp
@[simp] theorem inputFalls_out (n : Fin 6) : (inputFalls n s).out = s.out := by
  unfold inputFalls; (try dsimp only); (repeat' split) <;> simp
@[simp] theorem inputFalls_pending (n : Fin 6) : (inputFalls n s).pending = s.pending := by
  unfold inputFalls; (try dsimp only); (repeat' split) <;> simp

/-! ### faultRamp -/

@[simp] theorem faultRamp_tle : (faultRamp s).tle = s.tle := by
  unfold faultRamp; (try dsimp only); (repeat' split) <;> simp
@[simp] theorem faultRamp_rtu : (faultRamp s).rtu = s.rtu := by
  unfold faultRamp; (try dsimp only); (repeat' split) <;> simp
@[simp] theorem faultRamp_las : (faultRamp s).las = s.las := by
  unfold faultRamp; (try dsimp only); (repeat' split) <;> simp
@[simp] theorem faultRamp_ldu : (faultRamp s).ldu = s.ldu := by
  unfold faultRamp; (try dsimp only); (repeat' split) <;> simp
@[simp] theorem faultRamp_acu : (faultRamp s).acu = s.acu := by
  unfold faultRamp; (try dsimp only); (repeat' split) <;> simp
@[simp] theorem faultRamp_pending : (faultRamp s).pending = s.pending := by
  unfold faultRamp; (try dsimp only); (repeat' split) <;> simp

/-! ### recordFault -/

@[simp] theorem recordFault_tle (n : Fin 6) (m : BitVec 12) : (recordFault n m s).tle = s.tle := by
  unfold recordFault; (try dsimp only); (repeat' split) <;> simp
@[simp] theorem recordFault_rtu (n : Fin 6) (m : BitVec 12) : (recordFault n m s).rtu = s.rtu := by
  unfold recordFault; (try dsimp only); (repeat' split) <;> simp
@[simp] theorem recordFault_slr (n : Fin 6) (m : BitVec 12) : (recordFault n m s).slr = s.slr := by
  unfold recordFault; (try dsimp only); (repeat' split) <;> simp
@[simp] theorem recordFault_las (n : Fin 6) (m : BitVec 12) : (recordFault n m s).las = s.las := by
  unfold recordFault; (try dsimp only); (repeat' split) <;> simp
@[simp] theorem recordFault_ldu (n : Fin 6) (m : BitVec 12) : (recordFault n m s).ldu = s.ldu := by
  unfold recordFault; (try dsimp only); (repeat' split) <;> simp
@[simp] theorem recordFault_bcr (n : Fin 6) (m : BitVec 12) : (recordFault n m s).bcr = s.bcr := by
  unfold recordFault; (try dsimp only); (repeat' split) <;> simp
@[simp] theorem recordFault_acu (n : Fin 6) (m : BitVec 12) : (recordFault n m s).acu = s.acu := by
  unfold recordFault; (try dsimp only); (repeat' split) <;> simp
@[simp] theorem recordFault_out (n : Fin 6) (m : BitVec 12) : (recordFault n m s).out = s.out := by
  unfold recordFault; (try dsimp only); (repeat' split) <;> simp
@[simp] theorem recordFault_pending (n : Fin 6) (m : BitVec 12) : (recordFault n m s).pending = s.pending := by
  unfold recordFault; (try dsimp only); (repeat' split) <;> simp

/-! ### startFault -/

@[simp] theorem startFault_tle (n : Fin 6) : (startFault n s).tle = s.tle := by
  unfold startFault; (try dsimp only); (repeat' split) <;> simp
@[simp] theorem startFault_rtu (n : Fin 6) : (startFault n s).rtu = s.rtu := by
  unfold startFault; (try dsimp only); (repeat' split) <;> simp
@[simp] theorem startFault_las (n : Fin 6) : (startFault n s).las = s.las := by
  unfold startFault; (try dsimp only); (repeat' split) <;> simp
@[simp] theorem startFault_ldu (n : Fin 6) : (startFault n s).ldu = s.ldu := by
  unfold startFault; (try dsimp only); (repeat' split) <;> simp
@[simp] theorem startFault_acu (n : Fin 6) : (startFault n s).acu = s.acu := by
  unfold startFault; (try dsimp only); (repeat' split) <;> simp
@[simp] theorem startFault_pending (n : Fin 6) : (startFault n s).pending = s.pending := by
  unfold startFault; (try dsimp only); (repeat' split) <;> simp

/-! ### lossFault -/

@[simp] theorem lossFault_tle (n : Fin 6) : (lossFault n s).tle = s.tle := by
  unfold lossFault; (try dsimp only); (repeat' split) <;> simp
@[simp] theorem lossFault_rtu (n : Fin 6) : (lossFault n s).rtu = s.rtu := by
  unfold lossFault; (try dsimp only); (repeat' split) <;> simp
@[simp] theorem lossFault_las (n : Fin 6) : (lossFault n s).las = s.las := by
  unfold lossFault; (try dsimp only); (repeat' split) <;> simp
@[simp] theorem lossFault_ldu (n : Fin 6) : (lossFault n s).ldu = s.ldu := by
  unfold lossFault; (try dsimp only); (repeat' split) <;> simp
@[simp] theorem lossFault_acu (n : Fin 6) : (lossFault n s).acu = s.acu := by
  unfold lossFault; (try dsimp only); (repeat' split) <;> simp
@[simp] theorem lossFault_pending (n : Fin 6) : (lossFault n s).pending = s.pending := by
  unfold lossFault; (try dsimp only); (repeat' split) <;> simp

end Sys2Proof.Machine
end

