-- ==== Sys2Proof/Laws/TickWords.lean ====
section
/-! SUPPORT. What the parts of a head line tick do, in the words of Safety: one equation for each. -/

namespace Sys2Proof.Machine

variable (s : State)

/-! ## Fields that a tick's words leave -/

@[simp] theorem Rtu.ticked_head (l : Label) (rest : List Tick) (r : Rtu) : (r.ticked l rest).head = some l := rfl
@[simp] theorem Rtu.ticked_ticks (l : Label) (rest : List Tick) (r : Rtu) : (r.ticked l rest).ticks = rest := rfl
@[simp] theorem Rtu.ticked_settings (l : Label) (rest : List Tick) (r : Rtu) :
    (r.ticked l rest).settings = r.settings := rfl
@[simp] theorem Rtu.ticked_timing (l : Label) (rest : List Tick) (r : Rtu) : (r.ticked l rest).timing = r.timing := rfl
@[simp] theorem Rtu.ticked_probe (l : Label) (rest : List Tick) (r : Rtu) : (r.ticked l rest).probe = r.probe := rfl
@[simp] theorem Las.ticked_records (r : Rtu) (l : Label) (x : Las) : (x.ticked r l).records = x.records := by
  unfold Las.ticked; cases triggerOf r.settings l <;> dsimp only <;> split <;> rfl
@[simp] theorem Las.ticked_active (r : Rtu) (l : Label) (x : Las) : (x.ticked r l).active = x.active := by
  unfold Las.ticked; cases triggerOf r.settings l <;> dsimp only <;> split <;> rfl
@[simp] theorem Las.ticked_target (r : Rtu) (l : Label) (x : Las) : (x.ticked r l).target = x.target := by
  unfold Las.ticked; cases triggerOf r.settings l <;> dsimp only <;> split <;> rfl

/-! ## Probes (02, R23, R25) -/

theorem issueProbe_eq (now : Nat) : issueProbe now s = { s with rtu := s.rtu.issued now } := rfl

/-- One more event of an outstanding probe, whose age is below 64 in every state that TimingInv allows. -/
theorem ageProbe_eq (h : ∀ p, s.rtu.probe = some p → p.age < 64) :
    ageProbe s = { s with rtu := s.rtu.aged, lma := s.lma.probeReport s.rtu } := by
  unfold ageProbe Rtu.aged Lma.probeReport abandonProbe probeLimit
  cases e : s.rtu.probe with
  | none => rfl
  | some p =>
    have := h p e
    by_cases h63 : p.age = 63
    · simp [h63]; split <;> rfl
    · have : ¬ 64 ≤ p.age + 1 := by omega
      simp [h63, this]; rfl

/-! ## The stale watch (03, R57) -/

/-- One lane after a tick. -/
def Lane.ticked (total : Nat) (l : Lane) : Lane :=
  if l.state = .up then
    { l with staleCount := l.counted, stale := l.stale || decide (2 * total ≤ l.counted) }
  else l

/-- Whether a tick begins a stale episode on the lane. -/
def Lane.episode (total : Nat) (l : Lane) : Bool :=
  l.state == .up && !l.stale && decide (2 * total ≤ l.counted)

theorem Slr.ticked_eq (total : Nat) (r : Slr) :
    r.ticked total = { r with lanes := r.lanes.map (Lane.ticked total) } := by
  unfold Slr.ticked Lane.ticked; congr 1; ext i; simp

/-- What a tick does to one lane's stale watch. -/
theorem tickStale_eq (i : Fin 4) :
    tickStale i s =
      { s with
        slr := s.slr.setLane i (s.slr.lanes[i].ticked s.rtu.settings.total)
        lma := if s.slr.lanes[i].episode s.rtu.settings.total then s.lma.raise .statusStale else s.lma } := by
  unfold tickStale Lane.ticked Lane.episode Lane.staleDue beginStale Slr.setLane Lane.counted
  by_cases hu : s.slr.lanes[i.val].state = .up
  · by_cases hs : s.slr.lanes[i.val].stale = true <;>
      by_cases hd : 2 * s.rtu.settings.total ≤ min 9000 (s.slr.lanes[i.val].staleCount + 1) <;>
      simp [hu, hs, hd, State.mapLane, State.raise, State.mapLma]
  · simp [hu]

@[simp] theorem Lma.raise_raise (f : Flag) (l : Lma) : (l.raise f).raise f = l.raise f := by
  simp [Lma.raise, BitVec.or_assoc]

/-- What a tick does to the stale watch of all lanes. -/
theorem tickStales_eq :
    tickStale 3 (tickStale 2 (tickStale 1 (tickStale 0 s))) =
      { s with
        slr := s.slr.ticked s.rtu.settings.total
        lma := s.lma.staleReport s.rtu.settings.total s.slr } := by
  have h3 : ((3 : Fin 4) : Nat) = 3 := rfl
  simp only [tickStale_eq, Slr.setLane, Slr.ticked_eq, Lma.staleReport]
  congr 1
  · congr 1; ext i hi
    obtain rfl | rfl | rfl | rfl : i = 0 ∨ i = 1 ∨ i = 2 ∨ i = 3 := by omega
    all_goals simp [h3]
  · have he : s.slr.episode s.rtu.settings.total =
        (s.slr.lanes[0].episode s.rtu.settings.total || s.slr.lanes[1].episode s.rtu.settings.total ||
          s.slr.lanes[2].episode s.rtu.settings.total || s.slr.lanes[3].episode s.rtu.settings.total) := by
      simp [Slr.episode, Lane.episode, Bool.or_assoc, h3]
    simp [he, h3]
    by_cases h0 : s.slr.lanes[0].episode s.rtu.settings.total = true <;>
      by_cases h1 : s.slr.lanes[1].episode s.rtu.settings.total = true <;>
      by_cases h2 : s.slr.lanes[2].episode s.rtu.settings.total = true <;> simp [h0, h1, h2]

/-! ## The trigger test and the current-frame bank (02, R39; 04, R76, R77) -/

theorem sendFrameStart_eq (g : Fin 16) (i : Fin 4) :
    sendFrameStart g i s =
      { s with out := s.out ++ if s.slr.lanes[i].state == .up then [.downlink i (.frameStart g)] else [] } := by
  unfold sendFrameStart; simp only [beq_iff_eq]; split <;> simp [State.emit]

/-- Frame Start goes to every UP lane, in the order of the lanes. -/
theorem sendFrameStarts_eq (g : Fin 16) :
    sendFrameStart g 3 (sendFrameStart g 2 (sendFrameStart g 1 (sendFrameStart g 0 s))) =
      { s with out := s.out ++ s.slr.frameStarts (some g) } := by
  simp only [sendFrameStart_eq, Slr.frameStarts, List.filter, List.append_assoc]
  congr 2
  cases s.slr.lanes[(0 : Fin 4)].state == .up <;> cases s.slr.lanes[(1 : Fin 4)].state == .up <;>
    cases s.slr.lanes[(2 : Fin 4)].state == .up <;> cases s.slr.lanes[(3 : Fin 4)].state == .up <;> rfl

theorem resolveCommit_eq (g : Fin 16) (x : Las) :
    resolveCommit g x =
      { x with
        triggeredBank := if x.commit = .none then x.active else x.target.getD x.active
        commit := if x.commit = .none then .none else .draining
        switchFrame := if x.commit = .pending then some g else x.switchFrame } := by
  unfold resolveCommit; cases x.commit <;> simp

/-- What a tick does before its superframe: the Frame Starts, the counter and the banks. -/
theorem trigger_eq (l : Label) :
    takeFrameBank s.rtu.head l (testTrigger l (s.mapRtu fun r => { r with head := some l })) =
      { s with
        rtu := s.rtu.ticked l s.rtu.ticks
        las := s.las.ticked s.rtu l
        out := s.out ++ s.slr.frameStarts (triggerOf s.rtu.settings l) } := by
  unfold takeFrameBank testTrigger triggerFrame
  cases h : triggerOf s.rtu.settings l with
  | none => simp [h, Slr.frameStarts, Las.ticked, Rtu.ticked]; split <;> rfl
  | some g =>
    simp only [State.mapRtu, h, sendFrameStarts_eq, Las.ticked, Rtu.ticked, ← resolveCommit_eq]
    split <;> rfl

end Sys2Proof.Machine
end

