-- ==== Sys2Proof/Laws/Timing.lean ====
section
/-! SUPPORT. What the operations of the reference timing leave as they were, block by block: one lemma for each operation and block. -/

namespace Sys2Proof.Machine

variable (s : State)

/-! ### relock -/

@[simp] theorem relock_slr : (relock s).slr = s.slr := by
  unfold relock; (try dsimp only); (repeat' split) <;> simp
@[simp] theorem relock_bcr : (relock s).bcr = s.bcr := by
  unfold relock; (try dsimp only); (repeat' split) <;> simp
@[simp] theorem relock_bss : (relock s).bss = s.bss := by
  unfold relock; (try dsimp only); (repeat' split) <;> simp
@[simp] theorem relock_acu : (relock s).acu = s.acu := by
  unfold relock; (try dsimp only); (repeat' split) <;> simp
@[simp] theorem relock_out : (relock s).out = s.out := by
  unfold relock; (try dsimp only); (repeat' split) <;> simp
@[simp] theorem relock_pending : (relock s).pending = s.pending := by
  unfold relock; (try dsimp only); (repeat' split) <;> simp

/-! ### relockBy -/

@[simp] theorem relockBy_slr (p : Option MarkerRecord) : (relockBy p s).slr = s.slr := by
  unfold relockBy; (try dsimp only); (repeat' split) <;> simp
@[simp] theorem relockBy_bcr (p : Option MarkerRecord) : (relockBy p s).bcr = s.bcr := by
  unfold relockBy; (try dsimp only); (repeat' split) <;> simp
@[simp] theorem relockBy_bss (p : Option MarkerRecord) : (relockBy p s).bss = s.bss := by
  unfold relockBy; (try dsimp only); (repeat' split) <;> simp
@[simp] theorem relockBy_acu (p : Option MarkerRecord) : (relockBy p s).acu = s.acu := by
  unfold relockBy; (try dsimp only); (repeat' split) <;> simp
@[simp] theorem relockBy_out (p : Option MarkerRecord) : (relockBy p s).out = s.out := by
  unfold relockBy; (try dsimp only); (repeat' split) <;> simp
@[simp] theorem relockBy_pending (p : Option MarkerRecord) : (relockBy p s).pending = s.pending := by
  unfold relockBy; (try dsimp only); (repeat' split) <;> simp

/-! ### enterFree -/

@[simp] theorem enterFree_slr : (enterFree s).slr = s.slr := by
  unfold enterFree; (try dsimp only); (repeat' split) <;> simp
@[simp] theorem enterFree_bcr : (enterFree s).bcr = s.bcr := by
  unfold enterFree; (try dsimp only); (repeat' split) <;> simp
@[simp] theorem enterFree_bss : (enterFree s).bss = s.bss := by
  unfold enterFree; (try dsimp only); (repeat' split) <;> simp
@[simp] theorem enterFree_out : (enterFree s).out = s.out := by
  unfold enterFree; (try dsimp only); (repeat' split) <;> simp
@[simp] theorem enterFree_pending : (enterFree s).pending = s.pending := by
  unfold enterFree; (try dsimp only); (repeat' split) <;> simp

/-! ### recomputeWait -/

@[simp] theorem recomputeWait_slr : (recomputeWait s).slr = s.slr := by
  unfold recomputeWait; (try dsimp only); (repeat' split) <;> simp
@[simp] theorem recomputeWait_bcr : (recomputeWait s).bcr = s.bcr := by
  unfold recomputeWait; (try dsimp only); (repeat' split) <;> simp
@[simp] theorem recomputeWait_bss : (recomputeWait s).bss = s.bss := by
  unfold recomputeWait; (try dsimp only); (repeat' split) <;> simp
@[simp] theorem recomputeWait_acu : (recomputeWait s).acu = s.acu := by
  unfold recomputeWait; (try dsimp only); (repeat' split) <;> simp
@[simp] theorem recomputeWait_out : (recomputeWait s).out = s.out := by
  unfold recomputeWait; (try dsimp only); (repeat' split) <;> simp
@[simp] theorem recomputeWait_pending : (recomputeWait s).pending = s.pending := by
  unfold recomputeWait; (try dsimp only); (repeat' split) <;> simp

/-! ### followUpdates -/

@[simp] theorem followUpdates_slr (lp dapp : Option Nat) : (followUpdates lp dapp s).slr = s.slr := by
  unfold followUpdates; (try dsimp only); (repeat' split) <;> simp
@[simp] theorem followUpdates_bcr (lp dapp : Option Nat) : (followUpdates lp dapp s).bcr = s.bcr := by
  unfold followUpdates; (try dsimp only); (repeat' split) <;> simp
@[simp] theorem followUpdates_bss (lp dapp : Option Nat) : (followUpdates lp dapp s).bss = s.bss := by
  unfold followUpdates; (try dsimp only); (repeat' split) <;> simp
@[simp] theorem followUpdates_acu (lp dapp : Option Nat) : (followUpdates lp dapp s).acu = s.acu := by
  unfold followUpdates; (try dsimp only); (repeat' split) <;> simp
@[simp] theorem followUpdates_out (lp dapp : Option Nat) : (followUpdates lp dapp s).out = s.out := by
  unfold followUpdates; (try dsimp only); (repeat' split) <;> simp
@[simp] theorem followUpdates_pending (lp dapp : Option Nat) : (followUpdates lp dapp s).pending = s.pending := by
  unfold followUpdates; (try dsimp only); (repeat' split) <;> simp

/-! ### takeInterval -/

@[simp] theorem takeInterval_tle (i : Option Int) : (takeInterval i s).tle = s.tle := by
  unfold takeInterval; (try dsimp only); (repeat' split) <;> simp
@[simp] theorem takeInterval_slr (i : Option Int) : (takeInterval i s).slr = s.slr := by
  unfold takeInterval; (try dsimp only); (repeat' split) <;> simp
@[simp] theorem takeInterval_las (i : Option Int) : (takeInterval i s).las = s.las := by
  unfold takeInterval; (try dsimp only); (repeat' split) <;> simp
@[simp] theorem takeInterval_ldu (i : Option Int) : (takeInterval i s).ldu = s.ldu := by
  unfold takeInterval; (try dsimp only); (repeat' split) <;> simp
@[simp] theorem takeInterval_bcr (i : Option Int) : (takeInterval i s).bcr = s.bcr := by
  unfold takeInterval; (try dsimp only); (repeat' split) <;> simp
@[simp] theorem takeInterval_bss (i : Option Int) : (takeInterval i s).bss = s.bss := by
  unfold takeInterval; (try dsimp only); (repeat' split) <;> simp
@[simp] theorem takeInterval_acu (i : Option Int) : (takeInterval i s).acu = s.acu := by
  unfold takeInterval; (try dsimp only); (repeat' split) <;> simp
@[simp] theorem takeInterval_out (i : Option Int) : (takeInterval i s).out = s.out := by
  unfold takeInterval; (try dsimp only); (repeat' split) <;> simp
@[simp] theorem takeInterval_pending (i : Option Int) : (takeInterval i s).pending = s.pending := by
  unfold takeInterval; (try dsimp only); (repeat' split) <;> simp

/-! ### recordMarker -/

@[simp] theorem recordMarker_tle (m : Marker) : (recordMarker m s).tle = s.tle := by
  unfold recordMarker; (try dsimp only); (repeat' split) <;> simp
@[simp] theorem recordMarker_slr (m : Marker) : (recordMarker m s).slr = s.slr := by
  unfold recordMarker; (try dsimp only); (repeat' split) <;> simp
@[simp] theorem recordMarker_las (m : Marker) : (recordMarker m s).las = s.las := by
  unfold recordMarker; (try dsimp only); (repeat' split) <;> simp
@[simp] theorem recordMarker_ldu (m : Marker) : (recordMarker m s).ldu = s.ldu := by
  unfold recordMarker; (try dsimp only); (repeat' split) <;> simp
@[simp] theorem recordMarker_bcr (m : Marker) : (recordMarker m s).bcr = s.bcr := by
  unfold recordMarker; (try dsimp only); (repeat' split) <;> simp
@[simp] theorem recordMarker_bss (m : Marker) : (recordMarker m s).bss = s.bss := by
  unfold recordMarker; (try dsimp only); (repeat' split) <;> simp
@[simp] theorem recordMarker_acu (m : Marker) : (recordMarker m s).acu = s.acu := by
  unfold recordMarker; (try dsimp only); (repeat' split) <;> simp
@[simp] theorem recordMarker_lma (m : Marker) : (recordMarker m s).lma = s.lma := by
  unfold recordMarker; (try dsimp only); (repeat' split) <;> simp
@[simp] theorem recordMarker_out (m : Marker) : (recordMarker m s).out = s.out := by
  unfold recordMarker; (try dsimp only); (repeat' split) <;> simp
@[simp] theorem recordMarker_pending (m : Marker) : (recordMarker m s).pending = s.pending := by
  unfold recordMarker; (try dsimp only); (repeat' split) <;> simp

/-! ### attemptLock -/

@[simp] theorem attemptLock_tle (m : Marker) (d : Nat) : (attemptLock m d s).tle = s.tle := by
  unfold attemptLock; (try dsimp only); (repeat' split) <;> simp
@[simp] theorem attemptLock_slr (m : Marker) (d : Nat) : (attemptLock m d s).slr = s.slr := by
  unfold attemptLock; (try dsimp only); (repeat' split) <;> simp
@[simp] theorem attemptLock_las (m : Marker) (d : Nat) : (attemptLock m d s).las = s.las := by
  unfold attemptLock; (try dsimp only); (repeat' split) <;> simp
@[simp] theorem attemptLock_ldu (m : Marker) (d : Nat) : (attemptLock m d s).ldu = s.ldu := by
  unfold attemptLock; (try dsimp only); (repeat' split) <;> simp
@[simp] theorem attemptLock_bcr (m : Marker) (d : Nat) : (attemptLock m d s).bcr = s.bcr := by
  unfold attemptLock; (try dsimp only); (repeat' split) <;> simp
@[simp] theorem attemptLock_bss (m : Marker) (d : Nat) : (attemptLock m d s).bss = s.bss := by
  unfold attemptLock; (try dsimp only); (repeat' split) <;> simp
@[simp] theorem attemptLock_acu (m : Marker) (d : Nat) : (attemptLock m d s).acu = s.acu := by
  unfold attemptLock; (try dsimp only); (repeat' split) <;> simp
@[simp] theorem attemptLock_out (m : Marker) (d : Nat) : (attemptLock m d s).out = s.out := by
  unfold attemptLock; (try dsimp only); (repeat' split) <;> simp
@[simp] theorem attemptLock_pending (m : Marker) (d : Nat) : (attemptLock m d s).pending = s.pending := by
  unfold attemptLock; (try dsimp only); (repeat' split) <;> simp

/-! ### mayLock -/

@[simp] theorem mayLock_tle (m : Marker) : (mayLock m s).tle = s.tle := by
  unfold mayLock; (try dsimp only); (repeat' split) <;> simp
@[simp] theorem mayLock_slr (m : Marker) : (mayLock m s).slr = s.slr := by
  unfold mayLock; (try dsimp only); (repeat' split) <;> simp
@[simp] theorem mayLock_las (m : Marker) : (mayLock m s).las = s.las := by
  unfold mayLock; (try dsimp only); (repeat' split) <;> simp
@[simp] theorem mayLock_ldu (m : Marker) : (mayLock m s).ldu = s.ldu := by
  unfold mayLock; (try dsimp only); (repeat' split) <;> simp
@[simp] theorem mayLock_bcr (m : Marker) : (mayLock m s).bcr = s.bcr := by
  unfold mayLock; (try dsimp only); (repeat' split) <;> simp
@[simp] theorem mayLock_bss (m : Marker) : (mayLock m s).bss = s.bss := by
  unfold mayLock; (try dsimp only); (repeat' split) <;> simp
@[simp] theorem mayLock_acu (m : Marker) : (mayLock m s).acu = s.acu := by
  unfold mayLock; (try dsimp only); (repeat' split) <;> simp
@[simp] theorem mayLock_out (m : Marker) : (mayLock m s).out = s.out := by
  unfold mayLock; (try dsimp only); (repeat' split) <;> simp
@[simp] theorem mayLock_pending (m : Marker) : (mayLock m s).pending = s.pending := by
  unfold mayLock; (try dsimp only); (repeat' split) <;> simp

/-! ### markerInFree -/

@[simp] theorem markerInFree_tle (m : Marker) : (markerInFree m s).tle = s.tle := by
  unfold markerInFree; (try dsimp only); (repeat' split) <;> simp
@[simp] theorem markerInFree_slr (m : Marker) : (markerInFree m s).slr = s.slr := by
  unfold markerInFree; (try dsimp only); (repeat' split) <;> simp
@[simp] theorem markerInFree_las (m : Marker) : (markerInFree m s).las = s.las := by
  unfold markerInFree; (try dsimp only); (repeat' split) <;> simp
@[simp] theorem markerInFree_ldu (m : Marker) : (markerInFree m s).ldu = s.ldu := by
  unfold markerInFree; (try dsimp only); (repeat' split) <;> simp
@[simp] theorem markerInFree_bcr (m : Marker) : (markerInFree m s).bcr = s.bcr := by
  unfold markerInFree; (try dsimp only); (repeat' split) <;> simp
@[simp] theorem markerInFree_bss (m : Marker) : (markerInFree m s).bss = s.bss := by
  unfold markerInFree; (try dsimp only); (repeat' split) <;> simp
@[simp] theorem markerInFree_out (m : Marker) : (markerInFree m s).out = s.out := by
  unfold markerInFree; (try dsimp only); (repeat' split) <;> simp
@[simp] theorem markerInFree_pending (m : Marker) : (markerInFree m s).pending = s.pending := by
  unfold markerInFree; (try dsimp only); (repeat' split) <;> simp

/-! ### markerInLocking -/

@[simp] theorem markerInLocking_tle (m : Marker) : (markerInLocking m s).tle = s.tle := by
  unfold markerInLocking; (try dsimp only); (repeat' split) <;> simp
@[simp] theorem markerInLocking_slr (m : Marker) : (markerInLocking m s).slr = s.slr := by
  unfold markerInLocking; (try dsimp only); (repeat' split) <;> simp
@[simp] theorem markerInLocking_las (m : Marker) : (markerInLocking m s).las = s.las := by
  unfold markerInLocking; (try dsimp only); (repeat' split) <;> simp
@[simp] theorem markerInLocking_ldu (m : Marker) : (markerInLocking m s).ldu = s.ldu := by
  unfold markerInLocking; (try dsimp only); (repeat' split) <;> simp
@[simp] theorem markerInLocking_bcr (m : Marker) : (markerInLocking m s).bcr = s.bcr := by
  unfold markerInLocking; (try dsimp only); (repeat' split) <;> simp
@[simp] theorem markerInLocking_bss (m : Marker) : (markerInLocking m s).bss = s.bss := by
  unfold markerInLocking; (try dsimp only); (repeat' split) <;> simp
@[simp] theorem markerInLocking_out (m : Marker) : (markerInLocking m s).out = s.out := by
  unfold markerInLocking; (try dsimp only); (repeat' split) <;> simp
@[simp] theorem markerInLocking_pending (m : Marker) : (markerInLocking m s).pending = s.pending := by
  unfold markerInLocking; (try dsimp only); (repeat' split) <;> simp

/-! ### followMarker -/

@[simp] theorem followMarker_bcr (m : Marker) : (followMarker m s).bcr = s.bcr := by
  unfold followMarker; (try dsimp only); (repeat' split) <;> simp
@[simp] theorem followMarker_bss (m : Marker) : (followMarker m s).bss = s.bss := by
  unfold followMarker; (try dsimp only); (repeat' split) <;> simp
@[simp] theorem followMarker_pending (m : Marker) : (followMarker m s).pending = s.pending := by
  unfold followMarker; (try dsimp only); (repeat' split) <;> simp

/-! ### markerInLocked -/

@[simp] theorem markerInLocked_bcr (m : Marker) : (markerInLocked m s).bcr = s.bcr := by
  unfold markerInLocked; (try dsimp only); (repeat' split) <;> simp
@[simp] theorem markerInLocked_bss (m : Marker) : (markerInLocked m s).bss = s.bss := by
  unfold markerInLocked; (try dsimp only); (repeat' split) <;> simp
@[simp] theorem markerInLocked_pending (m : Marker) : (markerInLocked m s).pending = s.pending := by
  unfold markerInLocked; (try dsimp only); (repeat' split) <;> simp

/-! ### regainMarker -/

@[simp] theorem regainMarker_bcr (m : Marker) : (regainMarker m s).bcr = s.bcr := by
  unfold regainMarker; (try dsimp only); (repeat' split) <;> simp
@[simp] theorem regainMarker_bss (m : Marker) : (regainMarker m s).bss = s.bss := by
  unfold regainMarker; (try dsimp only); (repeat' split) <;> simp
@[simp] theorem regainMarker_pending (m : Marker) : (regainMarker m s).pending = s.pending := by
  unfold regainMarker; (try dsimp only); (repeat' split) <;> simp

/-! ### markerInHoldover -/

@[simp] theorem markerInHoldover_bcr (m : Marker) : (markerInHoldover m s).bcr = s.bcr := by
  unfold markerInHoldover; (try dsimp only); (repeat' split) <;> simp
@[simp] theorem markerInHoldover_bss (m : Marker) : (markerInHoldover m s).bss = s.bss := by
  unfold markerInHoldover; (try dsimp only); (repeat' split) <;> simp
@[simp] theorem markerInHoldover_pending (m : Marker) : (markerInHoldover m s).pending = s.pending := by
  unfold markerInHoldover; (try dsimp only); (repeat' split) <;> simp

/-! ### deliverMarker -/

@[simp] theorem deliverMarker_bcr (m : Marker) : (deliverMarker m s).bcr = s.bcr := by
  unfold deliverMarker; (try dsimp only); (repeat' split) <;> simp
@[simp] theorem deliverMarker_bss (m : Marker) : (deliverMarker m s).bss = s.bss := by
  unfold deliverMarker; (try dsimp only); (repeat' split) <;> simp
@[simp] theorem deliverMarker_pending (m : Marker) : (deliverMarker m s).pending = s.pending := by
  unfold deliverMarker; (try dsimp only); (repeat' split) <;> simp

/-! ### measureDelay -/

@[simp] theorem measureDelay_slr (x : Int) : (measureDelay x s).slr = s.slr := by
  unfold measureDelay; (try dsimp only); (repeat' split) <;> simp
@[simp] theorem measureDelay_bcr (x : Int) : (measureDelay x s).bcr = s.bcr := by
  unfold measureDelay; (try dsimp only); (repeat' split) <;> simp
@[simp] theorem measureDelay_bss (x : Int) : (measureDelay x s).bss = s.bss := by
  unfold measureDelay; (try dsimp only); (repeat' split) <;> simp
@[simp] theorem measureDelay_acu (x : Int) : (measureDelay x s).acu = s.acu := by
  unfold measureDelay; (try dsimp only); (repeat' split) <;> simp
@[simp] theorem measureDelay_out (x : Int) : (measureDelay x s).out = s.out := by
  unfold measureDelay; (try dsimp only); (repeat' split) <;> simp
@[simp] theorem measureDelay_pending (x : Int) : (measureDelay x s).pending = s.pending := by
  unfold measureDelay; (try dsimp only); (repeat' split) <;> simp

/-! ### deliverEcho -/

@[simp] theorem deliverEcho_slr (now : Nat) (e : Echo) : (deliverEcho now e s).slr = s.slr := by
  unfold deliverEcho; (try dsimp only); (repeat' split) <;> simp
@[simp] theorem deliverEcho_bcr (now : Nat) (e : Echo) : (deliverEcho now e s).bcr = s.bcr := by
  unfold deliverEcho; (try dsimp only); (repeat' split) <;> simp
@[simp] theorem deliverEcho_bss (now : Nat) (e : Echo) : (deliverEcho now e s).bss = s.bss := by
  unfold deliverEcho; (try dsimp only); (repeat' split) <;> simp
@[simp] theorem deliverEcho_acu (now : Nat) (e : Echo) : (deliverEcho now e s).acu = s.acu := by
  unfold deliverEcho; (try dsimp only); (repeat' split) <;> simp
@[simp] theorem deliverEcho_out (now : Nat) (e : Echo) : (deliverEcho now e s).out = s.out := by
  unfold deliverEcho; (try dsimp only); (repeat' split) <;> simp
@[simp] theorem deliverEcho_pending (now : Nat) (e : Echo) : (deliverEcho now e s).pending = s.pending := by
  unfold deliverEcho; (try dsimp only); (repeat' split) <;> simp

/-! ### holdOver -/

@[simp] theorem holdOver_bcr (d : Nat) : (holdOver d s).bcr = s.bcr := by
  unfold holdOver; (try dsimp only); (repeat' split) <;> simp
@[simp] theorem holdOver_bss (d : Nat) : (holdOver d s).bss = s.bss := by
  unfold holdOver; (try dsimp only); (repeat' split) <;> simp
@[simp] theorem holdOver_acu (d : Nat) : (holdOver d s).acu = s.acu := by
  unfold holdOver; (try dsimp only); (repeat' split) <;> simp
@[simp] theorem holdOver_pending (d : Nat) : (holdOver d s).pending = s.pending := by
  unfold holdOver; (try dsimp only); (repeat' split) <;> simp

/-! ### missMarker -/

@[simp] theorem missMarker_tle : (missMarker s).tle = s.tle := by
  unfold missMarker; (try dsimp only); (repeat' split) <;> simp
@[simp] theorem missMarker_slr : (missMarker s).slr = s.slr := by
  unfold missMarker; (try dsimp only); (repeat' split) <;> simp
@[simp] theorem missMarker_las : (missMarker s).las = s.las := by
  unfold missMarker; (try dsimp only); (repeat' split) <;> simp
@[simp] theorem missMarker_ldu : (missMarker s).ldu = s.ldu := by
  unfold missMarker; (try dsimp only); (repeat' split) <;> simp
@[simp] theorem missMarker_bcr : (missMarker s).bcr = s.bcr := by
  unfold missMarker; (try dsimp only); (repeat' split) <;> simp
@[simp] theorem missMarker_bss : (missMarker s).bss = s.bss := by
  unfold missMarker; (try dsimp only); (repeat' split) <;> simp
@[simp] theorem missMarker_acu : (missMarker s).acu = s.acu := by
  unfold missMarker; (try dsimp only); (repeat' split) <;> simp
@[simp] theorem missMarker_out : (missMarker s).out = s.out := by
  unfold missMarker; (try dsimp only); (repeat' split) <;> simp
@[simp] theorem missMarker_pending : (missMarker s).pending = s.pending := by
  unfold missMarker; (try dsimp only); (repeat' split) <;> simp

/-! ### expireDeadline -/

@[simp] theorem expireDeadline_bcr : (expireDeadline s).bcr = s.bcr := by
  unfold expireDeadline; (try dsimp only); (repeat' split) <;> simp
@[simp] theorem expireDeadline_bss : (expireDeadline s).bss = s.bss := by
  unfold expireDeadline; (try dsimp only); (repeat' split) <;> simp
@[simp] theorem expireDeadline_pending : (expireDeadline s).pending = s.pending := by
  unfold expireDeadline; (try dsimp only); (repeat' split) <;> simp

end Sys2Proof.Machine
end

