-- ==== Sys2Proof/WellFormed.lean ====
section
/-! DEFINITION. Which commands are well formed: the ones the sender can put on the part's pins and cables as
the row of spec/opcode_table.json says. The meanings are total: they answer for every command. -/

namespace Sys2Proof

/-- The body area of a management cell is 240 bytes (10, section 11.1). -/
def bodyAreaLength : Nat := 240

/-- The kinds of a Management Message are 1 READ, 2 WRITE, 3 COMMAND and 4 RELAY (12, Table 13-5). -/
def knownKind (k : Byte) : Bool := 1 ≤ k.toNat && k.toNat ≤ 4

/-- The command codes run 1 to 11 (12, section 13.4). -/
def knownCommandCode (c : Byte) : Bool := 1 ≤ c.toNat && c.toNat ≤ 11

/-- The tables that have a row of their own for their WRITE: Link Settings, Timing Settings, Alert Flags and
Supply Fault Status (10, Table 11-2). -/
def tableWithOwnRow (t : Byte) : Bool := t == 1#8 || t == 2#8 || t == 12#8 || t == 14#8

/-- A body area as a management cell carries it. -/
def wellFormedBody (b : List Byte) : Bool := b.length == bodyAreaLength

/-- The well-formed commands. A constructor with no check takes every value of its operands' types. -/
def WellFormed : Instr → Bool
  | .powerOnReset | .carrierGained | .carrierLost | .restartWaitExpiry | .attemptTimerExpiry => true
  | .superframeArrival _ _ _ => true
  | .retrain f => wellFormedBody f.body
  | .profileCapWrite f => wellFormedBody f.body
  | .headLineTick | .slotSent | .markerDeadlineExpiry | .probeAbandon => true
  | .timingSettingsWrite f => wellFormedBody f.body
  | .relock f => wellFormedBody f.body
  | .laneWordAligning _ _ | .alignmentTimerExpiry _ | .laneItemArrival _ _ | .staleEpisode _ => true
  | .laneReset f | .commit f | .cancelCommit f | .measureStart f | .measureAbort f => wellFormedBody f.body
  | .measureComplete => true
  | .relay f => wellFormedBody f.body
  | .answerTimerExpiry _ => true
  | .powerUp f | .powerDown f => wellFormedBody f.body
  | .rampUpDelayExpiry | .rampDownDelayExpiry => true
  | .powerGoodRise _ | .powerGoodFall _ | .startTimerExpiry _ | .lossTimerExpiry _ => true
  | .supplyFaultStatusWrite f => wellFormedBody f.body
  | .portByteReceived _ _ | .portByteSent | .callSample _ => true
  | .clearCounters f | .datapathReset f => wellFormedBody f.body
  | .alertFlagsWrite f => wellFormedBody f.body
  | .tableWrite t f => wellFormedBody f.body && !tableWithOwnRow t
  | .unknownKind m => wellFormedBody m.body && !knownKind m.kind
  | .unknownCommandCode c f => wellFormedBody f.body && !knownCommandCode c

end Sys2Proof
end

