-- ==== Sys2Proof/Tests/Slice0.lean ====
section
/-! SUPPORT. Tests: ill-formed commands, worked cases of the spec, and for every statement with hypotheses a state and
operands that meet them, clause by clause, at boundary values where a clause has a range. Expected values come from the
spec's worked cases and tables, or are computed by hand from its rules. -/

namespace Sys2Proof.Tests

open Sys2Proof.Machine

-- one theorem after another: a theorem the kernel decides waits for all before it
set_option Elab.async false

/-! ## Helpers -/

/-- A body area that begins with some bytes. -/
def body (bs : List Byte) : List Byte := bs ++ List.replicate (240 - bs.length) 0

/-- A COMMAND with an argument. -/
def command (args : List Byte) : CommandFields :=
  { tag := 7, table := 0, count := 0, length := BitVec.ofNat 8 args.length, body := body args }

/-- The bytes of a numeric field. -/
def field (v : Nat) : List Byte := 1#8 :: natToBytes 7 v

/-- A WRITE of numbers from an index on. -/
def write (index : Byte) (vs : List Nat) : WriteFields :=
  { tag := 7, index := index, count := BitVec.ofNat 8 vs.length, length := BitVec.ofNat 8 (8 * vs.length),
    body := body (vs.flatMap field) }

/-- A RELAY to a lane. -/
def relayTo (lane length : Byte) : RelayFields :=
  { tag := 7, table := 0, lane := lane, count := 0, length := length, body := body [1, 2] }

/-- A superframe of a marker, an echo and aux bytes, with its CRC-32. -/
def superframe (line tag tally : Nat) (echo : List Byte) (aux : List Byte) : List Byte :=
  let bs := natToBytes 2 line ++ [BitVec.ofNat 8 (tag + 16 * tally)] ++ echo ++
    [0, BitVec.ofNat 8 aux.length] ++ aux
  bs ++ natToBytes 4 (crc32 bs).toNat

/-- No echo. -/
def noEcho : List Byte := [0, 0, 0, 0]

/-- The parts of a superframe that carries a marker and nothing else. -/
def markerOnly (line : Nat) (tag : Fin 16) : Downstream :=
  { line := line, tag := tag, tally := .off, echo := none, cells := [], aux := [] }

/-- An item whose check agrees. -/
def item (control : LaneBits) (data : List LaneBits) : LaneItem :=
  { control := control, data := data ++ [crc16 (control :: data)], codingError := false }

/-- The state after reset with the link in ONLINE at P4. -/
def online : State := { State.reset with tle := { resetTle with link := .online, carrier := true } }

/-- Every lane in one state. -/
def lanesIn (st : LaneState) (s : State) : State :=
  { s with slr := { s.slr with lanes := Vector.replicate 4 { resetLane with state := st, supplyGood := true } } }

/-- The state after reset with every lane in UP. -/
def lanesUp : State := lanesIn .up State.reset

/-- A request of a lane. -/
def request (st : RequestStatus) : Request := { tag := 9, payload := [1], status := st, answer := [], retries := 1 }

/-- Every lane's relay with one request in flight. -/
def oneInFlight (s : State) : State :=
  { s with bcr := Vector.replicate 4 { queue := [request .inFlight], timer := true, held := none } }

/-- The RTU in LOCKED after a marker of line 5 at time 10000, with Lp 1850, Dapp 100 and so advance 1 and wait 1650. -/
def lockedRtu : Rtu :=
  { resetRtu with
    timing := .locked, prev := some { line := 5, tag := 0, time := 10000 }, lp := some 1850, dapp := some 100,
    advance := some 1, wait := some 1650, lockCount := 8, lockRef := some 1850, deadline := some 11914,
    lastTick := some { label := { frame := 0, num := 6 }, time := 11650 },
    head := some { frame := 0, num := 5 }, triggered := some 0 }

/-- The link in ONLINE and the RTU in LOCKED. -/
def locked : State := { online with rtu := lockedRtu }

/-- A state with a tick of frame 0 due. -/
def withTick (num : Nat) (s : State) : State :=
  { s with rtu := { s.rtu with ticks := [{ label := { frame := 0, num := num }, time := 11650 }] } }

/-- A full Egress. -/
def fullEgress (s : State) : State :=
  { s with lma := { s.lma with egress := List.replicate 8 (.commandAnswer 0 .ok 8) } }

/-- A VIDEO cell. -/
def cell : VideoCell := { frame := 0, line := 1, index := 0, descriptor := none, payload := 0 }

/-- A supply output that is ON and GOOD. -/
def goodOutput : Supply := { enable := true, good := true, timer := .none, faultHeld := false, input := true }

/-- A power state, with output 4 replaced. -/
def powered (p : PowerState) (next : Option Nat) (delay : Option (Fin 4)) (o : Supply) : State :=
  { State.reset with
    bss := { resetBss with power := p, nextStrobe := next, delay := delay, outputs := resetBss.outputs.set 4 o } }

/-! ## Ill-formed commands are refused by WellFormed -/

/-- A body shorter than a cell's body area. -/
theorem test_wellFormed_body : WellFormed (.commit { command [] with body := [] }) = false ∧
    WellFormed (.profileCapWrite { write 0 [1] with body := [1] }) = false ∧
    WellFormed (.relay { relayTo 0 1 with body := [] }) = false ∧
    WellFormed (.commit (command [])) = true := by decide +kernel

/-- A WRITE to a table with a row of its own is not a TABLE_WRITE. -/
theorem test_wellFormed_tableWrite : WellFormed (.tableWrite 12 (write 0 [1])) = false ∧
    WellFormed (.tableWrite 13 (write 0 [1])) = true := by decide +kernel

/-- A known Kind and a known command code have rows of their own. -/
theorem test_wellFormed_unknown :
    WellFormed (.unknownKind { kind := 2, tag := 0, table := 0, index := 0, count := 0, length := 0, body := body [] })
      = false ∧
    WellFormed (.unknownCommandCode 11 (command [])) = false ∧
    WellFormed (.unknownCommandCode 12 (command [])) = true := by decide +kernel

/-- The table gives no row bits, so no word spells a command. -/
theorem test_no_word_spells_a_command : decodeTableWord 8 0 = none ∧ decodeTableWord 32 0xFFFF = none := by decide +kernel

/-! ## Worked cases of the spec -/

/-- 12, R177 and R179: the check values of the two CRCs for the bytes "123456789" and the words "12345678". -/
theorem test_crc : crc32 [0x31, 0x32, 0x33, 0x34, 0x35, 0x36, 0x37, 0x38, 0x39] = 0xFC891918#32 ∧
    crc16 [0x3132, 0x3334, 0x3536, 0x3738] = 0xA12B#16 := by decide +kernel

/-- 05, 6.5.1: correction at the limits. -/
theorem test_correction :
    correct { black := 256, gain := 18022, pedestal := 64 } 1200 = 1102 ∧
    correct { black := 256, gain := 18022, pedestal := 64 } 100 = 0 ∧
    correct { black := 256, gain := 65535, pedestal := 64 } 16383 = 16383 ∧
    requantize .d12 1102 = 276 ∧ requantize .d10 1102 = 69 ∧ requantize .d10 16383 = 1023 := by decide +kernel

/-- 01, 2.6.1: one schedule at four profiles. -/
def workedSchedule : SlotBank :=
  { depth := .d14, entries := Vector.ofFn fun k =>
      if k.val < 29 then .video else if k.val = 29 then .mgmt else if k.val = 30 then .aux
      else if 39 ≤ k.val ∧ k.val ≤ 44 then .video else .fill }

theorem test_ladder :
    (ladder workedSchedule 8192 64).v = 35 ∧ (ladder workedSchedule 8192 64).depth = .d14 ∧
    (ladder workedSchedule 8192 32).depth = .d10 ∧ (ladder workedSchedule 8192 32).indication = .reduced ∧
    (ladder workedSchedule 8192 24).v = 22 ∧ (ladder workedSchedule 8192 24).truncating = true := by decide +kernel

/-- 04, 5.3.1: the window across the frame-tag wrap. -/
theorem test_window :
    departureDistance resetRtu.settings { frame := 15, num := 1122 } 15 1079 = 17961 ∧
    departureDistance resetRtu.settings { frame := 15, num := 1123 } 0 10 = 16 ∧
    departureDistance resetRtu.settings { frame := 0, num := 4 } 0 0 = 0 ∧
    windowOutcome 1125 17961 = some .late ∧ windowOutcome 1125 17 = some .early ∧ windowOutcome 1125 16 = none := by
  decide +kernel

/-- 03, 4.7.1: the watch in EVENT and MATCH modes. -/
theorem test_watch :
    Lane.alerts 0x0012 { resetLane with watchMask := 0x00F0, candidate := some 0x0012 } = true ∧
    Lane.alerts 0x0013 { resetLane with watchMask := 0x00F0, candidate := some 0x0013, latched := 0x0012 } = false ∧
    Lane.alerts 0x8002 { resetLane with watchMode := .matching, watchMask := 0x8001, watchCompare := 0x8000,
                                        candidate := some 0x8002, latched := 0x8003 } = true ∧
    Lane.alerts 0x8006 { resetLane with watchMode := .matching, watchMask := 0x8001, watchCompare := 0x8000,
                                        candidate := some 0x8006, latched := 0x8002 } = false := by decide +kernel

/-- 06, 7.1.1: the results of a run. -/
theorem test_results : resultOf { sum := 742000, count := 2880 } = some 258 ∧
    resultOf { sum := 16000000, count := 3840 } = some 4095 ∧ resultOf { sum := 0, count := 0 } = none := by decide +kernel

/-- 12, Table 13-7, and 03, Table 4-2: with no command waiting, a training block in TRAINING, its check computed outside
the model, and an idle word for each lane that is not OFF. -/
theorem test_idlePart :
    (idlePart { State.reset with tle := { resetTle with link := .training } }).out =
      [.trainingBlock [0x7E, 0x81, 0x7E, 0x81, 4, 0, 0, 0, 0, 0, 0, 0, 0xD5, 0xBD, 0x98, 0x06]] ∧
    (idlePart { State.reset with slr := { State.reset.slr with
      lanes := #v[{ resetLane with state := .failed }, resetLane, { resetLane with state := .aligning },
        { resetLane with state := .up }] } }).out = [.idleWord 0 0, .idleWord 2 0, .idleWord 3 0] := by decide +kernel

/-! ## Witnesses: the step and the agent -/

theorem witness_StepRunsFrontCommand :
    ({ State.reset with pending := [.callSample true, .portByteSent] } : State).pending
      = .callSample true :: [.portByteSent] ∧ State.reset.pending = [] := by decide +kernel

/-- An RTU that does not tick, with settings other than the reset ones. -/
def idleRtu : Rtu := { resetRtu with settings := { resetRtu.settings with latency := 3 } }

theorem witness_ResetLineAssemblyStore :
    idleRtu.timing.ticking = false ∧ TimingInv idleRtu ∧ 1079 < idleRtu.settings.active := by
  refine ⟨rfl, ?_, by decide⟩
  simp [TimingInv, idleRtu, resetRtu, TimingSettings.inRange, TimingSettings.good, TimingState.ticking,
    Rtu.phaseAbsent]

theorem witness_PowerOnResetCommand :
    locked.tle.carrier = true ∧ (powered .running none none goodOutput).tle.carrier = false := by decide +kernel

theorem witness_RisingRaiseGivesOneNotice :
    resetLma.flag .powerOn = true ∧ ({ resetLma with masks := 2 } : Lma).masks.getLsbD Flag.linkState.index = true ∧
    (resetLma.flag .linkState = false ∧ resetLma.masks.getLsbD Flag.linkState.index = false ∧
      resetLma.noticeOutstanding = true) ∧
    (let l : Lma := { resetLma with egress := List.replicate 7 (.commandAnswer 0 .ok 8) }
     l.flag .mgmtError = false ∧ l.masks.getLsbD Flag.mgmtError.index = false ∧ l.noticeOutstanding = false ∧
       l.egress.length < 8) ∧
    (let l := (fullEgress State.reset).lma
     l.flag .mgmtError = false ∧ l.masks.getLsbD Flag.mgmtError.index = false ∧ l.noticeOutstanding = false ∧
       8 ≤ l.egress.length) := by decide +kernel

theorem witness_CountingStopsAtTheLimit :
    Counter.late ≠ Counter.early ∧
    ((({ resetLma with counters := Vector.replicate 19 65534 } : Lma).addCount .late 2).counter .late).toNat = 65535 := by
  decide +kernel

/-! ## Witnesses: what every step keeps -/

/-- A link in TRAINING with a command that waits. -/
def trainingLink : State :=
  { State.reset with
    tle := { resetTle with link := .training, carrier := true, attemptTimer := true, goodRun := 63 }, rtu := idleRtu,
    pending := [.attemptTimerExpiry] }

theorem witness_EveryStepKeepsLink :
    LinkInv trainingLink ∧ TimingInv trainingLink.rtu ∧ ∃ t, step trainingLink = .next t := by
  refine ⟨?_, witness_ResetLineAssemblyStore.2.1, _, rfl⟩
  simp [LinkInv, trainingLink, State.reset, resetTle]

theorem witness_EveryStepKeepsTiming :
    TimingInv locked.rtu ∧ ∃ t, step { locked with pending := [.markerDeadlineExpiry] } = .next t := by
  refine ⟨?_, _, rfl⟩
  simp [TimingInv, locked, lockedRtu, resetRtu, TimingSettings.inRange, TimingSettings.good, TimingState.ticking,
    Rtu.phaseHeld]

/-- A commit that is PENDING from A to B. -/
def pendingCommit : State :=
  { State.reset with las := { resetLas with commit := .pending, target := some .b }, pending := [.cancelCommit (command [])] }

theorem witness_EveryStepKeepsCommit : CommitInv pendingCommit ∧ ∃ t, step pendingCommit = .next t := by
  refine ⟨?_, _, rfl⟩
  simp [CommitInv, pendingCommit, State.reset, resetLas, resetTle, mapInRange, resetTileBank, resetPlace, Las.map,
    TileBank.entries, mapValid, distinctSegments, seamsValid, totalWidth, Bank.other]

/-- Two records of two lines. -/
def twoRecords : Las :=
  { resetLas with records := [
    { frame := 0, line := 3, stamp := .a, complete := false, present := [] },
    { frame := 0, line := 4, stamp := .a, complete := false, present := [] }] }

theorem witness_EveryStepKeepsRecords :
    RecordsInv twoRecords ∧ ∃ t, step { State.reset with las := twoRecords, pending := [.portByteSent] } = .next t := by
  refine ⟨?_, _, rfl⟩
  simp [RecordsInv, twoRecords]

/-- RAMPING_UP before strobe 2, with output 4 ON. -/
def rampingUp : State :=
  { powered .rampingUp (some 2) (some 1) goodOutput with pending := [.rampUpDelayExpiry] }

theorem witness_EveryStepKeepsSupply : SupplyInv rampingUp ∧ ∃ t, step rampingUp = .next t := by
  refine ⟨?_, _, rfl⟩
  unfold SupplyInv OutputsInv RampInv LaneSupplyInv
  simp only [rampingUp, powered, State.reset]
  refine ⟨by decide +kernel, ⟨by decide +kernel, fun _ => ⟨by decide +kernel, ?_⟩, by decide +kernel, by decide +kernel⟩,
    by decide +kernel⟩
  intro k hk
  cases hk
  decide +kernel

theorem witness_EveryStepKeepsManagement :
    ManagementInv (oneInFlight lanesUp) ∧
      ∃ t, step { oneInFlight lanesUp with pending := [.answerTimerExpiry 2] } = .next t := by
  refine ⟨?_, _, rfl⟩
  unfold ManagementInv RelayInv QueueInv
  simp only [oneInFlight, lanesUp, lanesIn, State.reset]
  decide +kernel

/-- A LOCAL owner with a byte that waits. -/
def localOwner : Acu := { resetAcu with owner := .localSide, down := [5] }

theorem witness_EveryStepKeepsAccessory :
    AccessoryInv localOwner ∧
      ∃ t, step { State.reset with acu := localOwner, pending := [.portByteReceived 0x1D false] } = .next t := by
  refine ⟨?_, _, rfl⟩
  simp [AccessoryInv, localOwner, resetAcu]

/-- A RUNNING run with one line to go. -/
def runningRun : MeasureRun := { resetLdu.run with state := .running, n := 3, lines := 2 }

theorem witness_EveryStepKeepsMeasurement :
    MeasureInv runningRun ∧
      ∃ t, step { State.reset with ldu := { resetLdu with run := runningRun }, pending := [.measureAbort (command [])] }
        = .next t := by
  refine ⟨?_, _, rfl⟩
  simp [MeasureInv, runningRun, resetLdu]

/-! ## Witnesses: link -/

theorem witness_CarrierGainedAndLost :
    (State.reset.tle.link = .down ∧ State.reset.tle.restartWait = false) ∧ trainingLink.tle.link = .training ∧
    online.tle.link = .online := by decide +kernel

theorem witness_LinkTimersExpire :
    (let s : State := { State.reset with tle := { resetTle with restartWait := true, carrier := true } }
     s.tle.link = .down ∧ s.tle.restartWait = true ∧ s.tle.carrier = true) ∧
    (let s : State := { State.reset with tle := { resetTle with restartWait := true } }
     s.tle.restartWait = true ∧ s.tle.carrier = false) ∧
    State.reset.tle.restartWait = false ∧
    (trainingLink.tle.link = .training ∧ trainingLink.tle.attemptTimer = true ∧
      trainingLink.tle.profile.lower = some .p3) ∧
    (let s : State := { trainingLink with tle := { trainingLink.tle with profile := .p1 } }
     s.tle.link = .training ∧ s.tle.attemptTimer = true ∧ s.tle.profile = .p1) ∧
    State.reset.tle.attemptTimer = false := by decide +kernel

/-- A superframe without an echo that FREE ignores for its line number, 1125. -/
def freeBytes : List Byte := superframe 1125 0 0 noEcho []

theorem witness_BadSuperframeActsOnTheRunsAlone :
    State.reset.tle.link = .down ∧ parseSuperframe [] = none ∧ trainingLink.tle.link = .training ∧
    (({ online with tle := { online.tle with badRun := 14 } } : State).tle.badRun + 1 < 16) ∧
    16 ≤ ({ online with tle := { online.tle with badRun := 15 } } : State).tle.badRun + 1 := by decide +kernel

theorem witness_SuperframeIsGoodExactlyWhen :
    parseSuperframe (superframe 1125 3 2 [1, 7, 0, 5] [65]) =
      some { line := 1125, tag := 3, tally := .onAir, echo := some { id := 7, hold := 5 }, cells := [], aux := [65] } ∧
    parseSuperframe ((superframe 1125 3 2 [1, 7, 0, 5] [65]).set 0 1) = none := by decide +kernel

theorem witness_GoodSuperframeHandsOverItsParts :
    parseSuperframe freeBytes = some (markerOnly 1125 0) ∧ online.tle.link = .online ∧ online.rtu.timing = .free ∧
    online.rtu.settings.total ≤ 1125 ∧ (markerOnly 1125 0).echo = none ∧ (markerOnly 1125 0).aux = [] ∧
    (markerOnly 1125 0).cells = [] := by decide +kernel

/-- A map of 16 entries, 8192 samples wide. -/
def wideBank : TileBank := { count := 16, places := Vector.replicate 16 { resetPlace with width := 512 } }

theorem witness_GoodSuperframeInTraining :
    parseSuperframe freeBytes = some (markerOnly 1125 0) ∧ trainingLink.tle.link = .training ∧
    trainingLink.rtu.timing = .free ∧ trainingLink.rtu.settings.total ≤ 1125 ∧
    (({ trainingLink with tle := { trainingLink.tle with goodRun := 62 } } : State).tle.goodRun + 1 < 64 ∧
      trainingLink.rtu.probe = none) ∧
    (trainingLink.tle.goodRun = 63 ∧
      ({ trainingLink.rtu with probe := some { id := 0, sent := 0, age := 0 } } : Rtu).probe.isSome = true) ∧
    (let tle : Tle := { trainingLink.tle with profile := .p2, schedA := workedSchedule }
     let new := ladder (tle.sched tle.active) (totalWidth wideBank.entries) tle.profile.budget
     tle.profile.number < tle.cap.number ∧ new.indication ≠ .none ∧ tle.degrade.indication = .none) := by
  decide +kernel

/-! ## Witnesses: reference timing -/

/-- The link in ONLINE with some timing state. -/
def timed (r : Rtu) : State := { online with rtu := r }

/-- LOCKED with a need of two line periods: 3690 leaves the wait 10, 1851 the wait 1849. -/
def needing (dapp offset wait : Nat) : Rtu :=
  { lockedRtu with advance := some 2, dapp := some dapp, wait := some wait,
                   settings := { lockedRtu.settings with offset := offset } }

/-- HOLDOVER after some misses, the record at the end of frame 15. -/
def holding (missRun : Nat) : Rtu :=
  { lockedRtu with timing := .holdover, missRun := missRun, prev := some { line := 1124, tag := 15, time := 10000 } }

theorem witness_ExpectedMarkerSchedulesItsTick :
    parseSuperframe (superframe 6 0 0 noEcho []) = some (markerOnly 6 0) ∧
    locked.tle.link = .online ∧ locked.rtu.timing = .locked ∧ locked.rtu.ticks = [] ∧
    locked.rtu.prev = some { line := 5, tag := 0, time := 10000 } ∧ locked.rtu.lp = some 1850 ∧
    locked.rtu.dapp = some 100 ∧ locked.rtu.advance = some 1 ∧ locked.rtu.wait = some 1650 ∧
    5 < locked.rtu.settings.total ∧ 6 = (5 + 1) % locked.rtu.settings.total ∧
    11000 = 10000 + 1000 ∧ 1650 + (2 * 100 + locked.rtu.settings.offset) = 1 * 1850 ∧
    1438 + (2 * 100 + locked.rtu.settings.offset) = 1 * ((3 * 1850 + 1000 + 2) / 4) ∧
    1438 < (3 * 1850 + 1000 + 2) / 4 ∧ 10999 < 10000 + 1000 ∧ 10000 + 65535 < 75536 := by decide +kernel

/-- The recomputed wait at both ends of its range, and one interval beyond each. -/
theorem witness_ExpectedMarkerSchedulesItsTick_wait :
    10 + (2 * 1845 + (needing 1845 0 10).settings.offset) = 2 * 1850 ∧ (10 : Nat) < 1850 ∧
    0 + 2 * 1845 = 2 * ((3 * 1850 + 1828 + 2) / 4) ∧ 2 * ((3 * 1850 + 1827 + 2) / 4) < 2 * 1845 ∧
    1849 + (2 * 925 + (needing 925 1 1849).settings.offset) = 2 * 1850 ∧ (1849 : Nat) < 1850 ∧
    1849 + (2 * 925 + 1) = 2 * ((3 * 1850 + 1851 + 2) / 4) ∧
    (2 * 925 + 1) + (3 * 1850 + 1852 + 2) / 4 ≤ 2 * ((3 * 1850 + 1852 + 2) / 4) ∧
    (needing 1845 0 10).ticks = [] ∧ (timed (needing 1845 0 10)).las.commit ≠ .draining := by decide +kernel

/-- HOLDOVER over the end of frame 15: after two misses the marker of line 2 of frame 0 is expected. -/
theorem witness_ExpectedMarkerSchedulesItsTick_holdover :
    (holding 2).timing = .holdover ∧ 2 = (1124 + (holding 2).missRun + 1) % (holding 2).settings.total ∧
    (0 : Fin 16) = 15 + Fin.ofNat 16 ((1124 + (holding 2).missRun + 1) / (holding 2).settings.total) ∧
    parseSuperframe (superframe 2 0 0 noEcho []) = some (markerOnly 2 0) ∧ (holding 2).ticks = [] := by decide +kernel

/-- LOCKED with one tick that waits. -/
def waiting (num time : Nat) (s : State) : State :=
  { s with rtu := { s.rtu with ticks := [{ label := { frame := 0, num := num }, time := time }] } }

/-- A tick that waits for the very time of the marker's own tick, and ones that wait longer, where the wait is kept, where the
marker relocks, and in HOLDOVER; the tick before a relock raises no flag. -/
theorem witness_ExpectedMarkerSchedulesItsTick_waiting :
    ((waiting 3 13500 locked).rtu.ticks = [{ label := { frame := 0, num := 3 }, time := 13500 }] ∧
      11850 + 1650 ≤ 13500 ∧ 11850 = 10000 + 1850) ∧
    ((waiting 3 13500 locked).rtu.ticks = [] ++ [{ label := { frame := 0, num := 3 }, time := 13500 }] ∧
      ∃ x ∈ (waiting 3 13500 locked).rtu.ticks, 11850 + 1650 ≤ x.time) ∧
    (10999 < 10000 + 1000 ∧ 10999 + 1650 ≤ 13500) ∧
    ((waiting 3 13500 (timed (holding 2))).rtu.timing = .holdover ∧ 11850 + 1650 ≤ 13500) ∧
    (let s := waiting 3 13500 (timed (needing 1845 0 10))
     11827 + 10 ≤ 13500 ∧ 11827 = 10000 + 1827 ∧ (3 * 1850 + 1827 + 2) / 4 = 1844 ∧ 2 * ((3 * 1850 + 1827 + 2) / 4) < 2 * 1845 ∧
     ∃ v, exec .headLineTick { s with
         rtu := { s.rtu with
           prev := some { line := 6, tag := 0, time := 11827 }, lp := some 1844, deadline := some (11827 + 1844 + 64)
           ticks := [{ label := { frame := 0, num := 3 }, time := 11827 }] } } = .next v ∧
       v.las.commit ≠ .draining ∧ v.lma.flags = s.lma.flags) := by
  refine ⟨by decide +kernel, ⟨rfl, _, List.mem_singleton.mpr rfl, by decide⟩, by decide, by decide +kernel,
    ⟨by decide, rfl, by decide, by decide, _, rfl, ?_⟩⟩
  decide +kernel

theorem witness_UnexpectedMarkerRelocks :
    locked.rtu.timing = .locked ∧ locked.rtu.prev = some { line := 5, tag := 0, time := 10000 } ∧
    locked.las.commit ≠ .draining ∧
    (parseSuperframe (superframe 1124 0 0 noEcho []) = some (markerOnly 1124 0) ∧
      1124 < locked.rtu.settings.total ∧ 1124 ≠ (5 + 1) % locked.rtu.settings.total) ∧
    (parseSuperframe (superframe 6 1 0 noEcho []) = some (markerOnly 6 1) ∧ 6 = (5 + 1) % locked.rtu.settings.total ∧
      (1 : Fin 16) ≠ (if 6 = 0 then 0 + 1 else 0)) ∧
    (parseSuperframe freeBytes = some (markerOnly 1125 0) ∧ locked.rtu.settings.total ≤ 1125) ∧
    (holding 2).timing = .holdover ∧ 3 ≠ (1124 + (holding 2).missRun + 1) % (holding 2).settings.total ∧
    parseSuperframe (superframe 3 0 0 noEcho []) = some (markerOnly 3 0) ∧
    (15 : Fin 16) ≠ 15 + Fin.ofNat 16 ((1124 + (holding 2).missRun + 1) / (holding 2).settings.total) ∧
    parseSuperframe (superframe 2 15 0 noEcho []) = some (markerOnly 2 15) := by decide +kernel

theorem witness_FirstMarkerStartsLocking :
    parseSuperframe (superframe 1124 0 0 noEcho []) = some (markerOnly 1124 0) ∧ online.tle.link = .online ∧
    online.rtu.timing = .free ∧ online.rtu.probe = none ∧ 1124 < online.rtu.settings.total := by decide +kernel

/-- The RTU in LOCKING with seven markers of the lock-up run behind it. -/
def lockingRtu (dapp : Nat) : Rtu :=
  { resetRtu with
    timing := .locking, prev := some { line := 5, tag := 0, time := 10000 }, lp := some 1850, dapp := some dapp,
    lockCount := 7, lockRef := some 1850 }

theorem witness_LockAttempt :
    parseSuperframe (superframe 6 0 0 noEcho []) = some (markerOnly 6 0) ∧
    (lockingRtu 100).timing = .locking ∧ (lockingRtu 100).probe = none ∧ (lockingRtu 100).lp = some 1850 ∧
    (lockingRtu 100).lockRef = some 1850 ∧ (lockingRtu 100).lockCount = 7 ∧
    6 = (5 + 1) % (lockingRtu 100).settings.total ∧ 1854 ≤ 1850 + 4 ∧ 1850 ≤ 1854 + 4 ∧
    ((lockingRtu 100).dapp = some 100 ∧
      1651 + (2 * 100 + (lockingRtu 100).settings.offset) = 1 * ((3 * 1850 + 1854 + 2) / 4) ∧
      1651 < (3 * 1850 + 1854 + 2) / 4) ∧
    ((lockingRtu 14000).dapp = some 14000 ∧
      15 * ((3 * 1850 + 1854 + 2) / 4) < 2 * 14000 + (lockingRtu 14000).settings.offset) := by decide +kernel

/-- LOCKING at the other points of the lock-up run. -/
def runAt (count : Nat) (dapp : Option Nat) : Rtu := { lockingRtu 100 with lockCount := count, dapp := dapp }

theorem witness_LockAttempt_run :
    (timed (runAt 7 none)).tle.link = .online ∧ (runAt 7 none).timing = .locking ∧ (runAt 7 none).probe = none ∧
    (lockingRtu 100).settings.total ≤ 1125 ∧
    (runAt 0 none).prev.all (fun p => 7 != (p.line + 1) % 1125) = true ∧
    parseSuperframe (superframe 7 0 0 noEcho []) = some (markerOnly 7 0) ∧
    10999 < 10000 + 1000 ∧ 10000 + 65535 < 75536 ∧ (runAt 0 none).lockCount = 0 ∧
    (1850 + 4 < 1855 ∧ 1845 + 4 < 1850) ∧ (1846 : Nat) ≤ 1850 + 4 ∧ 1850 ≤ 1846 + 4 ∧
    (1 ≤ (runAt 1 none).lockCount ∧ (runAt 6 none).lockCount < 7) ∧
    (7 ≤ (runAt 8 none).lockCount ∧ (runAt 8 none).lockCount ≤ 8 ∧ (runAt 8 none).dapp = none) ∧
    (0 + (2 * 0 + (runAt 8 (some 0)).settings.offset) = 0 * ((3 * 1850 + 1846 + 2) / 4)) := by decide +kernel

/-- The link in ONLINE, the RTU in FREE with a probe outstanding. -/
def probing : State := { online with rtu := { resetRtu with probe := some { id := 7, sent := 500, age := 3 } } }

theorem witness_EchoMeasuresTheDelay :
    parseSuperframe (superframe 1125 0 0 [1, 7, 0, 5] []) =
      some { line := 1125, tag := 0, tally := .off, echo := some { id := 7, hold := 5 }, cells := [], aux := [] } ∧
    probing.tle.link = .online ∧ probing.rtu.timing = .free ∧ probing.rtu.settings.total ≤ 1125 ∧
    probing.rtu.probe = some { id := 7, sent := 500, age := 3 } ∧
    601 = 500 + 5 + 96 + 0 ∧ 600 < 500 + 5 + 96 ∧ online.rtu.probe = none := by decide +kernel

/-- LOCKED, advance 1, with a probe that waits for its echo. -/
def probingLocked (dapp : Nat) : Rtu :=
  { lockedRtu with dapp := some dapp, probe := some { id := 7, sent := 500, age := 3 } }

/-- The echo before an expected marker: Dapp as it was, the wait at both ends of its range, and beyond each. -/
theorem witness_EchoMeasuresTheDelay_wait :
    parseSuperframe (superframe 6 0 0 [1, 7, 0, 5] []) = some { markerOnly 6 0 with echo := some { id := 7, hold := 5 } } ∧
    parseSuperframe (superframe 6 0 0 noEcho []) = some { { markerOnly 6 0 with echo := some { id := 7, hold := 5 } } with
      echo := none } ∧
    (timed (probingLocked 100)).tle.link = .online ∧ (probingLocked 100).timing = .locked ∧
    (probingLocked 100).lp = some 1850 ∧ (probingLocked 100).advance = some 1 ∧
    801 = 500 + 5 + 96 + 200 ∧ (3 * 100 + 200 / 2 + 2) / 4 = 100 ∧
    ((3 * 920 + 1880 / 2 + 2) / 4 = 925 ∧ 0 + (2 * 925 + 0) = 1 * 1850) ∧
    ((3 * 920 + 1886 / 2 + 2) / 4 = 926 ∧ 1 * 1850 < 2 * 926 + 0) ∧
    ((3 * 1 + 0 / 2 + 2) / 4 = 1 ∧ (3 * 2 + 0 / 2 + 2) / 4 = 2 ∧ (3 * 3 + 0 / 2 + 2) / 4 = 2 ∧
      1846 + (2 * 2 + 0) = 1 * 1850) ∧
    ((needing 3 0 1849).advance = some 2 ∧ 2 * 2 + 0 + 1850 ≤ 2 * 1850) ∧
    (timed (probingLocked 100)).las.commit ≠ .draining ∧ (holding 2).timing = .holdover := by decide +kernel

/-- LOCKED under some Timing Settings, a tick of frame 0 due, and some probe. -/
def dueRtu (k : TimingSettings) (num : Nat) (p : Option Probe) : Rtu :=
  { (withTick num locked).rtu with settings := k, probe := p }

/-- Such an RTU keeps its invariant under good settings without a Base Offset. -/
theorem timingInv_dueRtu (k : TimingSettings) (num : Nat) (p : Option Probe) (hk : k.inRange) (ho : k.offset = 0)
    (h7 : 7 ≤ k.total) (h : num < k.total) (hp : ∀ q, p = some q → q.age < 64) : TimingInv (dueRtu k num p) := by
  have h5 : 5 < k.total := by omega
  have h6 : 6 < k.total := by omega
  simpa [TimingInv, dueRtu, withTick, locked, lockedRtu, resetRtu, TimingState.ticking, Rtu.phaseHeld, hk, ho, h5, h6]
    using ⟨h, hp⟩

/-- The settings after reset, with another Trigger Lead. -/
def leading (lead : Nat) : TimingSettings := { resetRtu.settings with lead := lead }

/-- Settings with an active line due at the trigger tick, 1110. -/
def wideSettings : TimingSettings := { total := 1125, active := 1120, latency := 1, lead := 15, offset := 0 }

theorem inRange_dueSettings :
    (leading 2).inRange ∧ (leading 0).inRange ∧ wideSettings.inRange := by
  unfold TimingSettings.inRange
  decide +kernel

/-- The RTU in LOCKED, the link in DOWN, a tick of frame 0 due. -/
def offlineTick (num : Nat) : State := { State.reset with rtu := dueRtu (leading 2) num none }

/-- The link in ONLINE, the RTU in LOCKED, a tick of frame 0 due, and some probe. -/
def dueTick (num : Nat) (p : Option Probe) : State := { locked with rtu := dueRtu (leading 2) num p }

theorem timingInv_dueTick (num : Nat) (p : Option Probe) (h : num < 1125) (hp : ∀ q, p = some q → q.age < 64) :
    TimingInv (dueTick num p).rtu :=
  timingInv_dueRtu _ _ _ inRange_dueSettings.1 rfl (by decide) h hp

theorem timingInv_offlineTick (num : Nat) (h : num < 1125) : TimingInv (offlineTick num).rtu :=
  timingInv_dueTick num none h (by simp)

/-- A probe of some age. -/
def aged (age : Nat) : Probe := { id := 7, sent := 500, age := age }

/-- The first and the last active line and the blanking lines next to them, each under its tick. -/
theorem witness_TickOfflineDropsItsLine :
    (∀ num < 1125, TimingInv (offlineTick num).rtu ∧ (offlineTick num).tle.link ≠ .online ∧
      (offlineTick num).rtu.ticks = [{ label := { frame := 0, num := num }, time := 11650 }] ∧
      noFlipAt { frame := 0, num := num } (offlineTick num)) ∧
    (offlineTick 4).tle.superframe = none ∧ (offlineTick 4).tle.buffer = [] ∧
    ((offlineTick 4).rtu.settings.latency ≤ 4 ∧ 4 - 4 < (offlineTick 4).rtu.settings.active) ∧
    (1083 - 4 < (offlineTick 4).rtu.settings.active ∧
      1083 + 1 = (offlineTick 4).rtu.settings.active + (offlineTick 4).rtu.settings.latency) ∧
    3 < (offlineTick 3).rtu.settings.latency ∧
    (offlineTick 4).rtu.settings.latency + (offlineTick 4).rtu.settings.active ≤ 1084 ∧
    triggerOf (offlineTick 4).rtu.settings { frame := 0, num := 1123 } = some 1 ∧
    triggerOf wideSettings { frame := 0, num := 1110 } = some 1 ∧ 1110 - 1 < wideSettings.active := by
  refine ⟨fun num h => ⟨timingInv_offlineTick num h, nofun, rfl, rfl, ?_⟩, by decide +kernel⟩
  rintro ⟨h, -⟩
  cases h

/-- Ticks of blanking lines in ONLINE with every lane in UP: tick 0, the trigger tick 1123, and both sides of the active
lines; and probes of age 62 and 63, the latter also at tick 0. -/
theorem witness_TickOnlineSendsTheStatusCell :
    State.reset.rtu.ticks = [] ∧
    (∀ num < 1125, ∀ age < 64,
      TimingInv (dueTick num none).rtu ∧ TimingInv (dueTick num (some (aged age))).rtu) ∧
    (dueTick 0 none).tle.link = .online ∧ (dueTick 0 none).rtu.timing.ticking = true ∧
    (dueTick 0 none).rtu.ticks = [{ label := { frame := 0, num := 0 }, time := 11650 }] ∧
    (lanesIn .up (dueTick 0 none)).slr.lanes[3].state = .up ∧
    (lanesIn .up (dueTick 0 none)).rtu = (dueTick 0 none).rtu ∧
    triggerOf (dueTick 0 none).rtu.settings { frame := 0, num := 1123 } = some 1 ∧
    (0 < (dueTick 0 none).rtu.settings.latency ∧ 3 < (dueTick 0 none).rtu.settings.latency) ∧
    (dueTick 0 none).rtu.settings.latency + (dueTick 0 none).rtu.settings.active ≤ 1084 ∧
    (dueTick 0 (some (aged 63))).rtu.probe = some (aged 63) ∧ (aged 62).age < 63 ∧ (aged 63).age = 63 := by
  refine ⟨rfl, fun num h age ha => ⟨timingInv_dueTick num none h (by simp), timingInv_dueTick num _ h ?_⟩,
    by decide +kernel⟩
  intro q hq
  cases hq
  exact ha

theorem witness_TriggerTickStartsTheFrame :
    (TimingInv (dueRtu (leading 2) 1123 none) ∧ TimingInv (dueRtu (leading 0) 0 none) ∧
      TimingInv (dueRtu wideSettings 1110 none) ∧ TimingInv (dueRtu (leading 2) 1124 none)) ∧
    ((leading 2).lead ≠ 0 ∧ 1123 + (leading 2).lead = (leading 2).total) ∧ (leading 0).lead = 0 ∧
    (wideSettings.lead ≠ 0 ∧ 1110 + wideSettings.lead = wideSettings.total) ∧
    (1124 + (leading 2).lead ≠ (leading 2).total ∧ 1124 ≠ 0) ∧
    (dueTick 1123 none).las.commit = .none ∧ pendingCommit.las.commit = .pending ∧ pendingCommit.las.target = some .b ∧
    pendingCommit.las.flipMark = false ∧ (lanesIn .up (dueTick 1123 none)).slr.lanes[0].state = .up := by
  refine ⟨⟨?_, ?_, ?_, ?_⟩, by decide +kernel⟩ <;> apply timingInv_dueRtu <;>
    first | exact inRange_dueSettings.1 | exact inRange_dueSettings.2.1 | exact inRange_dueSettings.2.2 | decide | simp

theorem witness_DeadlineExpiryHoldsOver :
    locked.rtu.deadline = some 11914 ∧ locked.rtu.lp = some 1850 ∧
    locked.rtu.lastTick = some { label := { frame := 0, num := 6 }, time := 11650 } ∧
    (∀ x ∈ locked.rtu.ticks, x.time < 11650 + 1850) ∧ 11914 ≤ 11650 + 1850 ∧ locked.rtu.timing = .locked ∧
    ({ lockedRtu with timing := .holdover, missRun := 62 } : Rtu).missRun < 63 ∧ State.reset.rtu.timing = .free ∧
    (({ lockedRtu with deadline := some 13501 } : Rtu).ticks = [] ∧ 11650 + 1850 < 13501) ∧
    ((waiting 3 13500 locked).rtu.ticks = [{ label := { frame := 0, num := 3 }, time := 13500 }] ∧
      11650 + 1850 ≤ 13500 ∧ (waiting 3 13500 locked).rtu.deadline = some 11914) := by
  decide +kernel

theorem witness_DeadlineExpiryEndsTheTickPhase :
    ({ lockedRtu with lastTick := none } : Rtu).deadline = some 11914 ∧ locked.las.commit ≠ .draining ∧
    ({ lockedRtu with lastTick := none } : Rtu).timing = .locked ∧
    ({ lockedRtu with timing := .holdover, missRun := 63 } : Rtu).missRun = 63 := by decide +kernel

/-- A probe about to be abandoned, or not, at a tick out of ONLINE and at a marker. -/
def abandoning (age : Nat) (timing : TimingState) : State :=
  { online with rtu := { resetRtu with timing := timing, probe := some (aged age), abandonRun := 7 } }

theorem witness_ProbeAbandonedAtSixtyFour :
    64 ≤ (aged 64).age ∧ (aged 62).age < 64 ∧ (aged 63).age < 64 ∧
    (let s : State := { offlineTick 1084 with rtu := { (offlineTick 1084).rtu with probe := some (aged 63) } }
     s.tle.link ≠ .online ∧ s.tle.superframe = none ∧ s.tle.buffer = [] ∧
     s.rtu.ticks = [{ label := { frame := 0, num := 1084 }, time := 11650 }] ∧
     s.rtu.head = some { frame := 0, num := 5 } ∧ s.rtu.probe = some (aged 63) ∧
     triggerOf s.rtu.settings { frame := 0, num := 1084 } = none ∧ s.las.commit = .none ∧
     s.rtu.settings.latency ≤ 1084 ∧ s.rtu.settings.active ≤ 1084 - s.rtu.settings.latency ∧
     ∀ i : Fin 4, s.slr.lanes[i].state ≠ .up) ∧
    parseSuperframe (superframe 1124 0 0 noEcho []) = some (markerOnly 1124 0) ∧
    1124 < (abandoning 63 .free).rtu.settings.total ∧ (abandoning 63 .free).tle.link = .online ∧
    (abandoning 63 .free).rtu.timing = .free ∧ (abandoning 62 .locking).rtu.timing = .locking ∧
    (abandoning 62 .locking).rtu.prev = none ∧ (abandoning 62 .locking).rtu.probe = some (aged 62) := by decide +kernel

/-- A WRITE as the tests of R165 find it: the table's size, its first index and its Count. -/
def covers (size : Nat) (f : WriteFields) : Bool :=
  f.count != 0 && f.count.toNat ≤ 30 && f.index.toNat + f.count.toNat ≤ size && f.length.toNat == 8 * f.count.toNat &&
    f.length.toNat ≤ 240

/-- The numbers a WRITE carries, with presence byte 1. -/
def carries (f : WriteFields) (vs : List Nat) : Bool :=
  (List.range f.count.toNat).map (fun k => (bodyField f.body k).toNat) == vs.map (2 ^ 56 + ·)

/-- All five fields at the low ends of their ranges, Lead alone at its high end, and a Latency and a Base Offset; a Latency,
an Active Lines and a presence byte that are refused; ranges past index 4, and a Count of 0. -/
theorem witness_TimingSettingsAreWrittenWhole :
    AtRest State.reset ∧ AtRest locked ∧ State.reset.rtu.timing = .free ∧ locked.rtu.timing ≠ .free ∧
    locked.las.commit ≠ .draining ∧
    (covers 5 (write 0 [3, 1, 1, 0, 0]) = true ∧ carries (write 0 [3, 1, 1, 0, 0]) [3, 1, 1, 0, 0] = true ∧
      1 < 3 ∧ 1 + 1 + 1 ≤ 3 ∧ 0 < 3) ∧
    (covers 5 (write 3 [15]) = true ∧ carries (write 3 [15]) [15] = true ∧ 15 < locked.rtu.settings.total) ∧
    (covers 5 (write 4 [65535]) = true ∧ carries (write 4 [65535]) [65535] = true) ∧
    (covers 5 (write 2 [16]) = true ∧ carries (write 2 [16]) [16] = true ∧ 15 < 16) ∧
    (covers 5 (write 1 [1121]) = true ∧ ¬ locked.rtu.settings.latency + 1121 + 1 ≤ locked.rtu.settings.total) ∧
    (bodyField { write 0 [3] with body := body [0, 0, 0, 0, 0, 0, 0, 3] }.body 0).toNat / 2 ^ 56 ≠ 1 ∧
    5 < (write 4 [1, 1]).index.toNat + (write 4 [1, 1]).count.toNat ∧ (write 0 []).count = 0 ∧
    ({ write 0 [3] with length := 16 } : WriteFields).length.toNat ≠ 8 * (write 0 [3]).count.toNat := by
  unfold AtRest
  decide +kernel

theorem witness_RelockCommand :
    AtRest State.reset ∧ (command []).length = 0 ∧ State.reset.rtu.timing = .free ∧ AtRest locked ∧
    locked.rtu.timing ≠ .free ∧ locked.las.commit ≠ .draining := by
  unfold AtRest
  decide +kernel

/-- A commit that is DRAINING to B, its flip to come, in LOCKED. -/
def drainingCommit : State :=
  { locked with las := { resetLas with commit := .draining, target := some .b, switchFrame := some 1 } }

theorem witness_FlushCompletesADrainingCommit :
    AtRest drainingCommit ∧ CommitInv drainingCommit ∧ (command []).length = 0 ∧ drainingCommit.rtu.timing ≠ .free ∧
    drainingCommit.las.commit = .draining ∧ drainingCommit.las.flipMark = false ∧
    drainingCommit.las.target = some .b := by
  refine ⟨by unfold AtRest; decide +kernel, ?_, rfl, by decide +kernel, rfl, rfl, rfl⟩
  simp [CommitInv, drainingCommit, locked, online, State.reset, resetLas, resetTle, mapInRange, resetTileBank, resetPlace,
    Las.map, TileBank.entries, mapValid, distinctSegments, seamsValid, totalWidth, Bank.other]

/-- A record of a line with a stamp. -/
def stamped (line : Nat) (stamp : Bank) : LineRecord :=
  { frame := 1, line := line, stamp := stamp, complete := true
    present := [{ lane := 0, segment := 0, samples := List.replicate 8 100 }] }

/-- A map of one entry, 8 samples wide. -/
def oneEntry : TileBank :=
  { count := 1, places := Vector.replicate 16 { lane := 0, segment := 0, width := 8, correction := 0, seam := false } }

/-- A commit DRAINING to B with switch frame 1, flipped or not, at a tick of frame 1. -/
def draining (link : LinkState) (num : Nat) (flipped : Bool) (records : List LineRecord) : State :=
  { locked with
    rtu := { lockedRtu with
      ticks := [{ label := { frame := 1, num := num }, time := 11650 }], head := some { frame := 1, num := 3 } }
    tle := { locked.tle with link := link, active := if flipped then .b else .a }
    las := { resetLas with
      mapA := oneEntry, mapB := oneEntry, active := if flipped then .b else .a, records := records
      currentBank := .b, triggeredBank := .b, commit := .draining, target := some .b, switchFrame := some 1
      flipMark := flipped }
    ldu := { resetLdu with run := runningRun } }

theorem commitInv_draining (link : LinkState) (num : Nat) (flipped : Bool) (records : List LineRecord) :
    CommitInv (draining link num flipped records) := by
  cases flipped <;>
    simp [CommitInv, draining, locked, online, mapInRange, oneEntry, Las.map, TileBank.entries,
      mapValid, distinctSegments, seamsValid, totalWidth, Bank.other]

theorem timingInv_draining (link : LinkState) (num : Nat) (flipped : Bool) (records : List LineRecord) (h : num < 1125) :
    TimingInv (draining link num flipped records).rtu := by
  simpa [TimingInv, draining, lockedRtu, resetRtu, TimingSettings.inRange, TimingSettings.good, TimingState.ticking,
    Rtu.phaseHeld] using h

/-- The flip at (switch frame, Latency), in ONLINE and out of it, with the old stamp left or not, and a later tick. -/
theorem witness_FlushCompletesADrainingCommit_tick :
    (∀ num < 1125, ∀ link flipped records,
      CommitInv (draining link num flipped records) ∧ TimingInv (draining link num flipped records).rtu) ∧
    (let s := draining .online 4 false [stamped 0 .b]
     s.las.switchFrame = some 1 ∧ s.las.flipMark = false ∧ 4 = s.rtu.settings.latency ∧ s.tle.link = .online ∧
     s.rtu.timing.ticking = true ∧ s.las.recordOf 1 0 = some (stamped 0 .b) ∧ (s.las.map .b).entries ≠ [] ∧
     ∀ r ∈ s.las.records.filter (fun r => !(r.frame == 1 && r.line == 4 - s.rtu.settings.latency)), r.stamp = .b) ∧
    (let s := draining .training 4 false [stamped 1 .a]
     s.tle.link ≠ .online ∧ s.ldu.run.state = .running ∧
     ∃ r ∈ s.las.records.filter (fun r => !(r.frame == 1 && r.line == 4 - s.rtu.settings.latency)),
       r.stamp = Bank.other .b) ∧
    (let s := draining .down 1083 true [stamped 1079 .a]
     s.las.flipMark = true ∧ s.rtu.settings.latency ≤ 1083 ∧ 1083 - s.rtu.settings.latency < s.rtu.settings.active ∧
     s.las.records.filter (fun r => !(r.frame == 1 && r.line == 1083 - s.rtu.settings.latency)) = []) := by
  refine ⟨fun num h link flipped records =>
    ⟨commitInv_draining link num flipped records, timingInv_draining link num flipped records h⟩, by decide +kernel, ?_,
    by decide +kernel⟩
  exact ⟨by decide +kernel, by decide +kernel, stamped 1 .a, by decide +kernel, rfl⟩

/-- A tick that begins frame 1, with Lead 2 and with Lead 0, and a commit under way or none. -/
theorem witness_FlushCompletesADrainingCommit_banks :
    (let s := draining .online 3 false []
     s.rtu.head.map Label.frame = some 1) ∧
    (let s : State := { draining .online 0 false [] with
       rtu := { (draining .online 0 false []).rtu with
         head := none, settings := { lockedRtu.settings with lead := 0 } } }
     s.rtu.head.map Label.frame ≠ some 1 ∧ s.rtu.settings.lead = 0 ∧ s.las.commit ≠ .none ∧ s.las.target = some .b) ∧
    (locked.rtu.head.map Label.frame ≠ some 1 ∧ triggerOf locked.rtu.settings { frame := 1, num := 0 } = none ∧
      locked.las.commit = .none) := by decide +kernel

/-! ## Witnesses: slots, the departure -/

/-- A Slot Schedule bank with no MGMT entry. -/
def noMgmt : SlotBank := { depth := .d14, entries := Vector.replicate 63 .video }

theorem witness_ManagementReserve :
    (∀ i < 24, 1 ≤ i → noMgmt.entry i ≠ .mgmt) ∧ noMgmt.sentType 24 23 = .mgmt ∧ noMgmt.sentType 24 22 = .video ∧
    resetSlotBank.entry 1 = .mgmt ∧ resetSlotBank.sentType 24 23 = .fill := by decide +kernel

theorem witness_LadderTakesTheHighestFittingDepth :
    ((ladder workedSchedule 8192 64).v = 35 ∧ 8192 ≤ 35 * Depth.d14.perCell) ∧
    ((ladder workedSchedule 8192 24).v = 22 ∧ ¬ 8192 ≤ 22 * Depth.d10.perCell) ∧
    (ladder workedSchedule 0 24).depth = .d14 := by decide +kernel

/-- A superframe in progress in LOCKED, with cells in the Departure Buffer. -/
def sending (entry : SlotType) (slot : Nat) : State :=
  { locked with
    tle := { locked.tle with
      superframe := some { bank := .a, slot := slot, cell := .fill }, buffer := [cell, cell]
      schedA := { depth := .d12, entries := (Vector.replicate 63 entry).set 62 .mgmt } } }

theorem witness_SlotSentBeginsTheNextSlot :
    locked.tle.superframe = none ∧
    (sending .fill 63).tle.profile.budget ≤ 63 + 1 ∧
    (61 + 1 < (sending .fill 61).tle.profile.budget ∧
      ((sending .fill 61).tle.sched .a).sentType 64 62 = .fill ∧
      ((sending .aux 61).tle.sched .a).sentType 64 62 = .aux ∧
      ((sending .video 61).tle.sched .a).sentType 64 62 = .video) ∧
    (sending .video 61).tle.buffer = cell :: [cell] ∧ (sending .video 61).tle.profile.budget = 64 := by decide +kernel

/-- A superframe about to send its MGMT slot, slot 63, with some messages in Egress. -/
def beforeMgmt (egress : List UpMessage) : State :=
  { sending .fill 62 with lma := { resetLma with egress := egress } }

theorem witness_MgmtSlotGrantsTheFreedPlace :
    62 + 1 < (beforeMgmt []).tle.profile.budget ∧ ((beforeMgmt []).tle.sched .a).sentType 64 63 = .mgmt ∧
    (beforeMgmt []).lma.egress = [] ∧
    (beforeMgmt [.alertNotice 1]).lma.egress = .alertNotice 1 :: [] ∧
    (fullEgress (beforeMgmt [])).lma.egress = .commandAnswer 0 .ok 8 :: List.replicate 7 (.commandAnswer 0 .ok 8) ∧
    ({ resetLma with noticePending := true } : Lma).noticePending = true ∧
    (beforeMgmt [.alertNotice 1]).lma.ingress = [] ∧ (∀ i : Fin 4, (beforeMgmt []).bcr[i].held = none) ∧
    (beforeMgmt []).lma.rotation = 3 ∧
    (∀ n : Fin 4, n.val < ((2 : Fin 4) - ((beforeMgmt []).lma.rotation + 1)).val →
      (beforeMgmt []).bcr[(beforeMgmt []).lma.rotation + 1 + n].held = none) ∧
    (List.replicate 7 (UpMessage.commandAnswer 0 .ok 8)).length = 7 := by decide +kernel

theorem witness_RetrainCommand :
    AtRest online ∧ (command [0]).length = 1 ∧ online.tle.link = .online ∧ byteAt (command [0]).body 0 = 0 ∧
    byteAt (command [1]).body 0 = 1 ∧ AtRest trainingLink ∧ trainingLink.tle.link = .training ∧
    State.reset.tle.link = .down ∧ 1 < (byteAt (command [2]).body 0).toNat := by
  unfold AtRest
  decide +kernel

theorem witness_ProfileCapWrite :
    AtRest online ∧ covers 5 (write 0 [3]) = true ∧ covers 5 (write 0 [3, 9, 9, 9, 9]) = true ∧
    bodyField (write 0 [3]).body 0 = fieldOfNat Profile.p3.number ∧ Profile.p3.number < online.tle.profile.number ∧
    trainingLink.tle.link = .training ∧ State.reset.tle.link = .down ∧
    bodyField (write 0 [4]).body 0 = fieldOfNat Profile.p4.number ∧
    online.tle.profile.number ≤ Profile.p4.number ∧
    (bodyField (write 0 [5]).body 0).toNat % 2 ^ 56 = 5 ∧ (bodyField (write 0 [0]).body 0).toNat % 2 ^ 56 = 0 ∧
    (bodyField (body [0, 0, 0, 0, 0, 0, 0, 3]) 0).toNat / 2 ^ 56 ≠ 1 ∧
    (covers 5 (write 4 [7]) = true ∧ (write 4 [7]).index ≠ 0) := by
  unfold AtRest
  decide +kernel

theorem witness_CorrectionOfASample :
    ((100 : Int) - 256) * 18022 + 8192 = -2803240 ∧ ((-2803240 : Int) / 16384) + 64 < 0 ∧
    ((0 : Int) + 8192) / 16384 + 0 = 0 ∧ (16383 : Int) < 64507 + 64 ∧
    ({ black := 0, gain := 0, pedestal := 5 } : Correction).gain = 0 ∧
    (∃ d ∈ departingEntries resetLdu oneEntry.entries [{ lane := 0, segment := 0, samples := [16383] }],
      d.source = .record [16383]) ∧
    (∃ d ∈ departingEntries
        { resetLdu with held := Vector.replicate 16 { valid := true, width := 8, samples := List.replicate 8 0 } }
        oneEntry.entries [], d.source = .held (List.replicate 8 0)) := by
  refine ⟨by decide +kernel, by decide +kernel, by decide +kernel, by decide +kernel, rfl,
    ⟨_, List.mem_singleton.mpr rfl, rfl⟩, ⟨_, List.mem_singleton.mpr rfl, rfl⟩⟩

theorem witness_RequantizationOfASample :
    16383 ≤ 16383 ∧ requantize .d10 16376 = 1023 ∧ requantize .d12 16382 = 4095 ∧
    (let g : Degrade := { depth := .d14, truncating := false, v := 2, indication := .none }
     let ds := departingEntries resetLdu [{ resetPlace with width := 241 }] []
     ((lineCellList g 0 1 ds)[0]?).isSome = true ∧ ((lineCellList g 0 1 ds)[1]?).isSome = true ∧
       ((lineCellList g 0 1 ds)[2]?).isSome = false) := by decide +kernel

theorem witness_PackingOfACell :
    (List.replicate 336 1023).length ≤ Depth.d10.perCell ∧ (∀ z ∈ List.replicate 336 1023, z < 2 ^ Depth.d10.bits) ∧
    (packPayload .d14 [1]).getMsbD 13 = true ∧ (packPayload .d14 [1]).getMsbD 14 = false ∧
    2 + (List.replicate 418 (0 : Byte)).length ≤ 420 ∧ 8 + 8 * 30 ≤ 420 ∧ 2 ^ 56 - 1 < 2 ^ 56 ∧
    (-2 ^ 55 : Int) ≤ -2 ^ 55 ∧ (2 ^ 55 - 1 : Int) < 2 ^ 55 ∧ 2 ^ 24 - 1 < 2 ^ 24 ∧ 2 ^ 32 - 1 < 2 ^ 32 ∧
    ({ resetPlace with width := 4096 } : Place).width < 2 ^ 16 ∧
    (UpCell.mgmt (.alertNotice 0x155AA3)).payload >>> (8 * (419 - 8)) = (0x8600000000000003A3 : Payload) := by
  decide +kernel

/-- 12, Tables 13-2 and 13-4, R180: a cell of frame 3 and line 777 with its descriptor, a relay command of three
bytes, a Tile Map entry place. -/
theorem test_layouts :
    (UpCell.video { frame := 3, line := 777, index := 0, payload := 0
                    descriptor := some { frame := 3, line := 777, depth := .d12, totalCells := 35, entryCount := 16
                                         truncated := true, concealed := 0x8001 } }).header =
      [0x23, 0x03, 0x09, 0x00, 0x63, 0x90, 0x80, 0x01] ∧
    (DownItem.relayCommand 0xA7 [1, 2, 3]).words.dropLast = [0x50A7, 3, 0x0102, 0x0300] ∧
    fieldOfPlace { lane := 3, segment := 2, width := 4096, correction := 15, seam := true } = 0x01030210000F0100#64 := by
  decide +kernel

/-- The LOCKED part with a record of line 1 of frame 0 and a tick that departs it. -/
def departing : State :=
  withTick 5 { locked with
    tle := { locked.tle with degrade := { depth := .d12, truncating := false, v := 1, indication := .none } }
    las := { resetLas with mapA := oneEntry, mapB := oneEntry, records := [
      { frame := 0, line := 1, stamp := .a, complete := true
        present := [{ lane := 0, segment := 0, samples := List.replicate 8 100 }] }] } }

theorem witness_TickDepartsItsLine :
    TimingInv departing.rtu ∧ departing.tle.link = .online ∧ departing.rtu.timing.ticking = true ∧
    departing.rtu.ticks = [{ label := { frame := 0, num := 5 }, time := 11650 }] ∧
    (departing.las.flipMark = false ∧ departing.las.commit ≠ .draining) ∧
    departing.ldu.run.state ≠ .running ∧
    departing.rtu.settings.latency ≤ 5 ∧ 5 - departing.rtu.settings.latency < departing.rtu.settings.active ∧
    (departing.las.recordOf 0 (5 - departing.rtu.settings.latency)).isSome = true ∧
    (departing.las.map .a).entries ≠ [] ∧ departing.tle.degrade.truncating = false ∧
    (departing.las.map .a).entries.Pairwise (fun p q => ¬(p.lane = q.lane ∧ p.segment = q.segment)) :=
  ⟨timingInv_dueTick 5 none (by decide) (by simp), by decide +kernel⟩

/-- A map of two entries of 8 samples, of lanes 0 and 1, with a seam between them. -/
def pairMap : TileBank :=
  { count := 2, places := Vector.ofFn fun k =>
      { lane := Fin.ofNat 4 k.val, segment := 0, width := 8, correction := 0, seam := k.val == 0 } }

/-- Two entries under a seam record, a line departed at tick `num`, with a measurement run. -/
def departingPair (num : Nat) (truncating : Bool) (r : MeasureRun) (records : List LineRecord) : State :=
  withTick num { locked with
    tle := { locked.tle with
      buffer := [cell], degrade := { depth := .d10, truncating := truncating, v := 0, indication := .truncating } }
    ldu := { resetLdu with run := r, seams := [freshSeam 1] }
    las := { resetLas with
      mapA := pairMap
      records := records } }

/-- A run one line before its last, and a run with more to go. -/
def lastLine : MeasureRun := { runningRun with acc := Vector.replicate 16 { sum := 792, count := 8 } }

/-- Ticks that depart a line with a commit DRAINING away from its flip, of frame 1 with its records; at the frame end; and at
the trigger tick with an active line due, with lanes in UP and a probe of age 63. -/
theorem witness_TickDepartsItsLine_ticks :
    (TimingInv (draining .online 5 false [stamped 1 .a]).rtu ∧
      (draining .online 5 false [stamped 1 .a]).las.flipMark = false ∧
      5 ≠ (draining .online 5 false [stamped 1 .a]).rtu.settings.latency) ∧
    (TimingInv (departingPair 1083 false lastLine []).rtu ∧
      1083 + 1 = (departingPair 1083 false lastLine []).rtu.settings.active +
        (departingPair 1083 false lastLine []).rtu.settings.latency ∧
      1083 - (departingPair 1083 false lastLine []).rtu.settings.latency <
        (departingPair 1083 false lastLine []).rtu.settings.active) ∧
    (TimingInv (dueRtu wideSettings 1110 (some (aged 63))) ∧ triggerOf wideSettings { frame := 0, num := 1110 } = some 1 ∧
      wideSettings.latency ≤ 1110 ∧ 1110 - wideSettings.latency < wideSettings.active ∧
      (lanesIn .up departing).slr.lanes[2].state = .up) :=
  ⟨⟨timingInv_draining .online 5 false _ (by decide), by decide +kernel⟩,
    ⟨timingInv_dueTick 1083 none (by decide) (by simp), by decide +kernel⟩,
    timingInv_dueRtu wideSettings 1110 _ inRange_dueSettings.2.2 rfl (by decide) (by decide)
      (by intro q hq; cases hq; decide), by decide +kernel⟩

/-- Lines 0 and 1078, with and without a record, with and without truncation, and the last line of a run; the line has its
left entry alone, or both. -/
theorem witness_TickDepartsItsLine_forms :
    (let s := departingPair 4 true lastLine []
     s.tle.degrade.truncating = true ∧ s.las.records = [] ∧ s.ldu.run.state = .running ∧
     s.ldu.run.n ≤ s.ldu.run.lines + 1 ∧ s.rtu.ticks = [{ label := { frame := 0, num := 4 }, time := 11650 }] ∧
     triggerOf s.rtu.settings { frame := 0, num := 4 } = none ∧ (4 : Nat) ≠ 0 ∧ s.rtu.settings.latency ≤ 4 ∧
     4 - s.rtu.settings.latency < s.rtu.settings.active ∧
     0 < s.ldu.run.acc[0].count ∧
     99 * s.ldu.run.acc[0].count ≤ s.ldu.run.acc[0].sum + s.ldu.run.acc[0].count / 2 ∧
     s.ldu.run.acc[0].sum + s.ldu.run.acc[0].count / 2 < (99 + 1) * s.ldu.run.acc[0].count) ∧
    (let s := departingPair 1082 false { lastLine with n := 65535 } [{ stamped 1078 .a with frame := 0 }]
     s.ldu.run.lines + 1 < s.ldu.run.n ∧ 1082 - s.rtu.settings.latency < s.rtu.settings.active ∧
     ((stamped 1078 .a).present.find? fun x => x.lane == 0 && x.segment == 0).isSome = true ∧
     ((stamped 1078 .a).present.find? fun x => x.lane == 1 && x.segment == 0) = none) ∧
    (let s := departingPair 5 false resetLdu.run []
     let ds := departingEntries s.ldu s.las.mapA.entries
       [{ lane := 0, segment := 0, samples := List.replicate 8 1 }, { lane := 1, segment := 0, samples := List.replicate 8 2 }]
     s.ldu.seams = [freshSeam 1] ∧ s.las.mapA.entries.length = 2 ∧
     ds.length = 2) := by decide +kernel

theorem witness_SourceOfAnEntry :
    oneEntry.entries[0]? = some { lane := 0, segment := 0, width := 8, correction := 0, seam := false } ∧
    resetLdu.held[heldIndex 0 0].valid = false ∧
    (let held := resetLdu.held.set 0 { valid := true, width := 8, samples := List.replicate 8 3 }
     held[heldIndex 0 0].valid = true ∧ held[heldIndex 0 0].width = 8) := by decide +kernel

/-- A seam record with two lines of a frame. -/
def seamRecord (sum : Int) (run : Nat) (isOpen : Bool) : SeamRecord :=
  { left := 1, isOpen := isOpen, sumDiff := sum, lines := 2, run := run, lastD := none }

theorem witness_SeamDecision :
    (TimingInv (departingPair 1083 false lastLine []).rtu ∧
      (departingPair 1083 false lastLine []).rtu.ticks = [{ label := { frame := 0, num := 1083 }, time := 11650 }] ∧
      1083 + 1 = (departingPair 1083 false lastLine []).rtu.settings.active +
        (departingPair 1083 false lastLine []).rtu.settings.latency ∧
      (departingPair 1083 false lastLine []).las.commit ≠ .draining) ∧
    (freshSeam 1).lines = 0 ∧ 0 < (seamRecord 71 0 false).lines ∧
    (36 : Int) * 2 ≤ 71 + ((2 / 2 : Nat) : Int) ∧ (71 : Int) + ((2 / 2 : Nat) : Int) < (36 + 1) * 2 ∧
    (decideSeam State.reset.slr.seam (seamRecord 71 0 false)).1.run = 1 ∧
    (decideSeam State.reset.slr.seam (seamRecord 70 1 false)).1.run = 0 ∧
    (decideSeam State.reset.slr.seam (seamRecord (-72) 1 false)).2 = true ∧
    (decideSeam State.reset.slr.seam (seamRecord 56 1 true)).1.isOpen = false :=
  ⟨⟨timingInv_dueTick 1083 none (by decide) (by simp), by decide +kernel⟩, by decide +kernel⟩

/-! ## Witnesses: lanes and relay -/

/-- The state after reset with every lane the same. -/
def allLanes (l : Lane) : State := { State.reset with slr := { State.reset.slr with lanes := Vector.replicate 4 l } }

/-- Every lane in ALIGNING with an idle run. -/
def aligning (run : Nat) : State :=
  allLanes { resetLane with state := .aligning, supplyGood := true, idleRun := run, alignTimer := true }

theorem witness_AlignmentOfALane :
    (aligning 30).slr.lanes[0].state = .aligning ∧ (aligning 30).slr.lanes[0].idleRun < 31 ∧
    (aligning 31).slr.lanes[0].idleRun = 31 ∧ (aligning 31).slr.lanes[0].alignTimer = true ∧ kindCode 0x0FFF = 0 ∧
    kindCode 0x1000 ≠ 0 ∧ lanesUp.slr.lanes[0].state ≠ .aligning := by decide +kernel

/-- Lane 0 in UP with a candidate, in a watch mode. -/
def watching (mode : WatchMode) : State :=
  allLanes { resetLane with state := .up, candidate := some 0x8001, watchMode := mode, watchMask := 0x8000,
                            watchCompare := 0x8000, errCount := 2 }

theorem witness_StatusWordsAndLaneErrors :
    (∀ j : Fin 4, (watching .event).bcr[j].headDecided = false) ∧ (watching .event).slr.lanes[0].state = .up ∧
    kindCode 0x2000 = 2 ∧ (watching .event).slr.lanes[0].candidate ≠ some 0 ∧
    (watching .event).slr.lanes[0].candidate = some 0x8001 ∧
    (0x8001#16 &&& 0x8000 ≠ 0#16 &&& 0x8000) ∧ (0x8001#16 &&& 0x8000 = 0x8000#16 &&& 0x8000) ∧
    (lanesUp.slr.lanes[0].candidate = none) ∧
    (watching .event).slr.lanes[0].errCount + 1 < (watching .event).slr.lanes[0].errThreshold ∧
    (3 + 1 = (watching .event).slr.lanes[0].errThreshold ∧ (watching .event).bcr[0].queue = [] ∧
      (watching .event).bcr[0].timer = false) ∧
    3 < kindCode 0x4000 ∧ crc16 (0x2000#16 :: [5, 6].dropLast) ≠ [5, 6].getLastD 0 ∧ kindCode 0x2000 ≠ 0 ∧
    (aligning 0).slr.lanes[0].state ≠ .up ∧ kindCode 0x0001 = 0 := by decide +kernel

/-- Items whose check agrees: a status word of no word and of two, a relay answer of 33 bytes, and one of two bytes in
three words; and tile packets of no word, of 4097 samples, and of one sample too many. -/
theorem witness_StatusWordsAndLaneErrors_lengths :
    (∀ x ∈ [item 0x2000 [], item 0x2000 [1, 2], item 0x3009 [], item 0x3009 [33], item 0x3009 [2, 1, 1],
        item 0x1000 [1], item 0x1000 [1, 4097], item 0x1000 [1, 2, 5, 5, 5]],
      x.codingError = false ∧ crc16 (x.control :: x.data.dropLast) = x.data.getLastD 0) ∧
    ((item 0x2000 []).data.length ≠ 2 ∧ (item 0x2000 [1, 2]).data.length ≠ 2 ∧ (item 0x3009 []).data.length < 2 ∧
      (item 0x1000 [1]).data.length < 3) ∧
    (2 ≤ (item 0x3009 [33]).data.length ∧ 32 < ((item 0x3009 [33]).data.getD 0 0).toNat) ∧
    ((item 0x3009 [2, 1, 1]).data.length ≠ (((item 0x3009 [2, 1, 1]).data.getD 0 0).toNat + 1) / 2 + 2) ∧
    (3 ≤ (item 0x1000 [1, 4097]).data.length ∧ 4096 < ((item 0x1000 [1, 4097]).data.getD 1 0).toNat) ∧
    ((item 0x1000 [1, 2, 5, 5, 5]).data.length ≠ ((item 0x1000 [1, 2, 5, 5, 5]).data.getD 1 0).toNat + 3) ∧
    kindCode 0x3009 = 3 := by decide +kernel

/-- The lane error that reaches the threshold with the lane's request in flight, Egress with room for notice and result. -/
theorem witness_StatusWordsAndLaneErrors_request :
    (let s : State := { oneInFlight lanesUp with
       slr := { lanesUp.slr with lanes := Vector.replicate 4 { lanesUp.slr.lanes[0] with errCount := 3 } }
       lma := { resetLma with egress := List.replicate 6 (.commandAnswer 0 .ok 8) } }
     s.slr.lanes[1].state = .up ∧ s.slr.lanes[1].errThreshold ≤ s.slr.lanes[1].errCount + 1 ∧
     s.bcr[1] = { queue := [request .inFlight], timer := true, held := none } ∧ s.lma.egress.length < 7 ∧
     ∀ j : Fin 4, s.bcr[j].headDecided = false) := by decide +kernel

/-- A tile packet of lane 0: line `line` of frame 0, segment 0, `count` samples. -/
def tilePacket (line count : Nat) : LaneItem :=
  item 0x1000 ([BitVec.ofNat 16 line, BitVec.ofNat 16 count] ++ List.replicate count 5)

/-- The LOCKED part at tick 5 of frame 0, every lane in UP, with the one-entry map. -/
def assembling : State := lanesIn .up { locked with las := departing.las }

theorem witness_TilePacketIsAccepted :
    assembling.slr.lanes[0].state = .up ∧ (∀ j : Fin 4, assembling.bcr[j].headDecided = false) ∧
    (tilePacket 2 8 =
        { control := 0x1000, data := 2 :: 8 :: List.replicate 8 5 ++ [crc16 (0x1000 :: 2 :: 8 :: List.replicate 8 5)]
          codingError := false } ∧
      (0x1000#16).toNat / 4096 = 1 ∧ (8#16).toNat = (List.replicate 8 5#16).length) ∧
    ((0x1FFF#16).toNat / 4096 = 1 ∧ Fin.ofNat 16 ((0x1FFF#16).toNat / 256) = 15 ∧ Fin.ofNat 4 (0x1FFF#16).toNat = 3 ∧
      BitVec.ofNat 14 (0xFFFF#16).toNat = 0x3FFF#14) ∧
    assembling.rtu.settings.active ≤ 1080 ∧ State.reset.rtu.head = none ∧
    assembling.rtu.head = some { frame := 0, num := 5 } ∧ assembling.rtu.triggered = some 0 ∧
    (assembling.rtu.triggered ≠ some 1 ∧ (0 : Fin 16) ≠ 1) ∧
    (0 * 1125 + 5 + 0) % 18000 = (0 * 1125 + 1 + 4) % 18000 ∧
    (0 * 1125 + 5 + 17) % 18000 = (0 * 1125 + 18 + 4) % 18000 ∧
    (0 * 1125 + 5 + 17999) % 18000 = (0 * 1125 + 0 + 4) % 18000 ∧
    (0 * 1125 + 5 + 1) % 18000 = (0 * 1125 + 2 + 4) % 18000 ∧
    (0 * 1125 + 5 + 16) % 18000 = (0 * 1125 + 17 + 4) % 18000 ∧
    (assembling.las.recordOf 0 17 = none ∧ assembling.las.records.length < 16) ∧
    (assembling.las.recordOf 0 1).isSome = true ∧
    (assembling.las.map .a).entries = [{ lane := 0, segment := 0, width := 8, correction := 0, seam := false }] ∧
    assembling.slr.lanes[0].errCount + 1 < assembling.slr.lanes[0].errThreshold := by decide +kernel

/-- A segment of seven samples for an entry of eight: the lane error that reaches the threshold. -/
theorem witness_TilePacketIsAccepted_threshold :
    (7#16).toNat = (List.replicate 7 5#16).length ∧ 1 ≤ [5#16].length ∧
    ((4096#16).toNat = 4096 ∧ List.length (List.replicate 4096 5#16) ≤ 4096) ∧ (7 : Nat) ≠ 8 ∧ (∀ j : Fin 4, assembling.bcr[j].headDecided = false) ∧
    assembling.bcr[0].queue = [] ∧ assembling.bcr[0].timer = false ∧
    ({ resetLane with state := .up, errCount := 3 } : Lane).errThreshold ≤ 3 + 1 ∧
    (assembling.las.recordOf 0 2 = none ∧
      (assembling.las.map .a).entries.find? (fun e => e.lane == 0 && e.segment == 0) = oneEntry.entries.head?) := by
  decide +kernel

/-- That lane error with the lane's request in flight. -/
theorem witness_TilePacketIsAccepted_request :
    (let s := oneInFlight assembling
     (∀ j : Fin 4, s.bcr[j].headDecided = false) ∧
     s.bcr[0] = { queue := [request .inFlight], timer := true, held := none } ∧ (request .inFlight).status = .inFlight ∧
     s.lma.egress.length < 7) := by decide +kernel

/-- Of the two records the store holds line 4 without segments, so a segment of it is stored. -/
theorem witness_TilePacketIsAccepted_present : RecordsInv twoRecords ∧
    (twoRecords.recordOf 0 4).isSome = true ∧ ∀ r ∈ twoRecords.records, r.present = [] := by
  refine ⟨?_, by decide +kernel, by decide +kernel⟩
  simp [RecordsInv, twoRecords]

theorem witness_RelayIsJudgedAndQueued :
    AtRest lanesUp ∧ 4 ≤ (relayTo 4 1).lane.toNat ∧ (relayTo 3 1).lane.toNat = (3 : Fin 4).val ∧
    (relayTo 3 0).length = 0 ∧ 32 < (relayTo 3 33).length.toNat ∧
    (1 ≤ (relayTo 3 1).length.toNat ∧ (relayTo 3 32).length.toNat ≤ 32) ∧
    (aligning 0).slr.lanes[3].state ≠ .up ∧ AtRest (aligning 0) ∧
    lanesUp.bcr[3] = { queue := [], timer := false, held := none } ∧
    (oneInFlight lanesUp).bcr[3].queue.length < 4 ∧
    (∃ r ∈ (oneInFlight lanesUp).bcr[3].queue, r.status = .inFlight) ∧ AtRest (oneInFlight lanesUp) ∧
    4 ≤ [request .inFlight, request .waiting, request .waiting, request .waiting].length := by
  unfold AtRest
  decide +kernel

/-- A relay answer to tag 9 of one byte. -/
def answerItem (tag : Nat) : LaneItem := item (BitVec.ofNat 16 (0x3000 + tag)) [1, 0x4100]

theorem witness_RelayAnswersAndRetries :
    (∀ j : Fin 4, (oneInFlight lanesUp).bcr[j].headDecided = false) ∧
    (answerItem 9 =
        { control := 0x3009, data := 1 :: [0x4100] ++ [crc16 (0x3009 :: 1 :: [0x4100])], codingError := false } ∧
      (0x3009#16).toNat / 4096 = 3 ∧ [0x4100#16].length = ((1#16).toNat + 1) / 2 ∧ BitVec.ofNat 8 (0x3009#16).toNat = 9#8) ∧
    ((0x3F08#16).toNat / 4096 = 3 ∧ BitVec.ofNat 8 (0x3F08#16).toNat = 8#8 ∧ ([] : List LaneBits).length = (0 + 1) / 2 ∧
      (List.replicate 16 0x4142#16).length = (32 + 1) / 2) ∧ lanesUp.slr.lanes[0].state = .up ∧
    (∀ r ∈ (oneInFlight lanesUp).bcr[0].queue, r.status = .inFlight → r.tag ≠ 8) ∧ lanesUp.bcr[0].timer = false ∧
    (oneInFlight lanesUp).bcr[0] = { queue := [request .inFlight], timer := true, held := none } ∧
    (request .inFlight).status = .inFlight ∧ (request .inFlight).tag = 9 ∧ lanesUp.lma.egress.length < 8 ∧
    8 ≤ (fullEgress lanesUp).lma.egress.length ∧
    (request .inFlight).retries < lanesUp.slr.lanes[0].retryLimit ∧
    lanesUp.slr.lanes[0].retryLimit ≤ ({ request .inFlight with retries := 2 } : Request).retries := by decide +kernel

theorem witness_LaneResetAndStaleEpisode :
    AtRest lanesUp ∧ (command [3]).length = 1 ∧ 4 ≤ (byteAt (command [4]).body 0).toNat ∧
    (byteAt (command [3]).body 0).toNat = (3 : Fin 4).val ∧ lanesUp.bcr[3].queue = [] ∧ lanesUp.bcr[3].timer = false ∧
    State.reset.slr.lanes[3].supplyGood = false ∧ AtRest State.reset ∧
    (aligning 5).slr.lanes[3].supplyGood = true ∧ (aligning 5).slr.lanes[3].state = .aligning ∧ AtRest (aligning 5) ∧
    lanesUp.slr.lanes[3].supplyGood = true ∧ lanesUp.slr.lanes[3].state = .up ∧
    (oneInFlight lanesUp).bcr[3] = { queue := [request .inFlight], timer := true, held := none } ∧
    AtRest (oneInFlight lanesUp) ∧ (oneInFlight lanesUp).lma.egress.length < 6 ∧
    2 * State.reset.rtu.settings.total ≤ ({ resetLane with state := .up, staleCount := 2250 } : Lane).staleCount ∧
    ({ resetLane with state := .up, staleCount := 2249 } : Lane).staleCount < 2 * State.reset.rtu.settings.total := by
  unfold AtRest
  decide +kernel

/-- Lanes at a tick, on both sides of 2250 and at 9000. -/
def staleTick : State :=
  let lane : Lane := { resetLane with state := .up, supplyGood := true }
  { offlineTick 1084 with slr := { State.reset.slr with
      lanes := #v[{ lane with staleCount := 2249 }, { lane with staleCount := 2248 },
        { lane with staleCount := 9000, stale := true }, resetLane] } }

theorem witness_LaneResetAndStaleEpisode_tick :
    staleTick.tle.link ≠ .online ∧ staleTick.tle.superframe = none ∧ staleTick.tle.buffer = [] ∧
    staleTick.rtu.ticks = [{ label := { frame := 0, num := 1084 }, time := 11650 }] ∧
    staleTick.rtu.head = some { frame := 0, num := 5 } ∧ staleTick.rtu.probe = none ∧
    triggerOf staleTick.rtu.settings { frame := 0, num := 1084 } = none ∧ staleTick.las.commit = .none ∧
    staleTick.rtu.settings.latency ≤ 1084 ∧ staleTick.rtu.settings.active ≤ 1084 - staleTick.rtu.settings.latency ∧
    2 * staleTick.rtu.settings.total = 2250 := by decide +kernel

/-! ## Witnesses: commit, measurement, supplies -/

/-- A shadow map whose last entry carries the seam flag. -/
def badMap : TileBank := { oneEntry with places := oneEntry.places.set 0 { resetPlace with width := 8, seam := true } }

/-- The part with a shadow map and a shadow Slot Schedule of depth 12 with one MGMT and one VIDEO entry. -/
def shadow (m : TileBank) : State :=
  { State.reset with
    las := { resetLas with mapB := m }
    tle := { resetTle with schedB := { resetSlotBank with entries := resetSlotBank.entries.set 2 .video } } }

theorem witness_CommitAndItsCancel :
    AtRest (shadow oneEntry) ∧ (command []).length = 0 ∧
    ((shadow oneEntry).las.commit = .none ∧ mapValid ((shadow oneEntry).las.map .b).entries = true ∧
      scheduleFits ((shadow oneEntry).tle.sched .b) 8 64 = true) ∧
    (mapValid ((shadow badMap).las.map .b).entries = false) ∧
    (scheduleFits (State.reset.tle.sched .b) 8 64 = false ∧ mapValid oneEntry.entries = true) ∧
    AtRest pendingCommit ∧ pendingCommit.las.commit = .pending ∧ AtRest drainingCommit ∧
    drainingCommit.las.commit = .draining ∧
    commitStatus (shadow oneEntry) = .ok ∧ commitStatus (shadow badMap) = .badValue ∧
    commitStatus { State.reset with las := { resetLas with mapB := oneEntry } } = .noBudget := by
  unfold AtRest
  decide +kernel

/-- The part with a measurement run. -/
def measuring (r : MeasureRun) : State := { State.reset with ldu := { resetLdu with run := r } }

theorem witness_MeasurementRun :
    AtRest State.reset ∧ (command [255, 255, 1]).body.length = 240 ∧ (command [255, 255, 1]).length = 3 ∧
    1 ≤ (byteAt (command [0, 1, 0]).body 0).toNat * 256 + (byteAt (command [0, 1, 0]).body 1).toNat ∧
    (byteAt (command [255, 255, 1]).body 2).toNat ≤ 1 ∧
    (byteAt (command [0, 0, 0]).body 0).toNat * 256 + (byteAt (command [0, 0, 0]).body 1).toNat = 0 ∧
    1 < (byteAt (command [0, 1, 2]).body 2).toNat ∧ AtRest (measuring runningRun) ∧
    (measuring runningRun).ldu.run.state = .running ∧ State.reset.ldu.run.state ≠ .running ∧
    (command []).length = 0 ∧ runningRun.lines < runningRun.n ∧
    (let r : MeasureRun := { runningRun with lines := 3, acc := Vector.replicate 16 { sum := 7, count := 2 } }
     r.state = .running ∧ r.n ≤ r.lines ∧ 0 < r.acc[0].count ∧ 4 * 2 ≤ 7 + 2 / 2 ∧ 7 + 2 / 2 < (4 + 1) * 2) := by
  unfold AtRest
  decide +kernel

/-- An output that is ON with its START timer running. -/
def starting : Supply := { enable := true, good := false, timer := .start, faultHeld := false, input := false }

theorem witness_PowerCommandsAndRamps :
    AtRest State.reset ∧ (command []).length = 0 ∧ State.reset.bss.power = .dormant ∧ State.reset.bss.marks = 0 ∧
    State.reset.bss.delays[0] ≠ 0 ∧ ({ resetBss with marks := 0x800 } : Bss).marks ≠ 0 ∧
    (powered .running none none goodOutput).bss.power = .running ∧ rampingUp.bss.power = .rampingUp ∧
    AtRest rampingUp ∧ (powered .rampingDown none (some 0) starting).bss.power = .rampingDown ∧
    rampingUp.bss.delays[3] ≠ 0 ∧
    (∀ n : Fin 6, rampingUp.bss.strobes[n] = 4 → rampingUp.bss.outputs[n].enable = false) ∧
    (rampingUp.bss.delay = some 1 ∧ rampingUp.bss.nextStrobe = some (2 : Fin 4).val ∧
      (∀ n : Fin 6, rampingUp.bss.strobes[n] = 2 → rampingUp.bss.outputs[n].input = false)) ∧
    (∀ n : Fin 6, rampingUp.bss.strobes[n] ≠ 4) ∧
    (let b : Bss := { resetBss with strobes := #v[0, 0, 0, 0, 1, 0], outputs := resetBss.outputs.set 4 goodOutput }
     ∀ n : Fin 6, b.strobes[n] ≠ 0 → b.outputs[n].enable = true ∧ b.outputs[n].good = true) ∧
    (∃ n : Fin 6, rampingUp.bss.strobes[n] ≠ 0 ∧ rampingUp.bss.outputs[n].good = false) ∧
    (powered .rampingDown none (some 0) starting).bss.nextStrobe = none ∧
    (let s := powered .rampingDown (some 1) (some 1) starting
     s.bss.nextStrobe = some ((0 : Fin 4).val + 1) ∧ s.bss.delays[0] ≠ 0 ∧
       ∀ n : Fin 6, s.bss.strobes[n] = 1 → s.bss.outputs[n].enable = true → s.bss.outputs[n].good = false) := by
  unfold AtRest
  decide +kernel

/-- An output that is OFF with its input already high. -/
def readyOutput : Supply := { enable := false, good := false, timer := .none, faultHeld := false, input := true }

/-- Ramping with chosen tables, every output the same, the lanes in UP where their outputs are GOOD. -/
def ramping (p : PowerState) (next : Option Nat) (delay : Option (Fin 4)) (strobes : Vector Nat 6) (delays : Vector Nat 4)
    (o : Supply) : State :=
  let s : State := if o.good then lanesUp else State.reset
  { s with bss := { resetBss with power := p, nextStrobe := next, delay := delay, strobes := strobes, delays := delays
                                  outputs := Vector.replicate 6 o } }

/-- Strobes whose inputs are high as they enable, and delays of 0. -/
theorem witness_PowerCommandsAndRamps_up :
    (let s := ramping .dormant none none #v[1, 2, 0, 0, 1, 2] #v[0, 1, 1, 1] readyOutput
     AtRest s ∧ s.bss.power = .dormant ∧ s.bss.marks = 0 ∧ s.bss.delays[0] = 0 ∧ s.bss.delays[1] ≠ 0 ∧
     s.bss.brings [1] 0 = true ∧ lanesAreOff (s.bss.brings [1]) s) ∧
    (let s := ramping .rampingUp (some 1) (some 0) #v[1, 2, 0, 0, 1, 2] #v[1, 1, 1, 1] readyOutput
     s.bss.nextStrobe = some (1 : Fin 4).val ∧ s.bss.delays[1] ≠ 0 ∧ s.bss.brings [1] 0 = true ∧
     lanesAreOff (s.bss.brings [1]) s ∧ ∀ i : Fin 4, s.bcr[i].headDecided = false) ∧
    (let s := ramping .rampingUp (some 2) (some 1) #v[3, 2, 0, 0, 1, 2] #v[1, 1, 0, 1] readyOutput
     s.bss.nextStrobe = some (2 : Fin 4).val ∧ (3 : Fin 4).val = 2 + 1 ∧ s.bss.delays[2] = 0 ∧ s.bss.delays[3] ≠ 0 ∧
     s.bss.brings [2, 3] 1 = true ∧ lanesAreOff (s.bss.brings [2, 3]) s) ∧
    (let s := ramping .rampingUp (some 3) (some 2) #v[3, 4, 0, 0, 4, 4] #v[1, 1, 1, 0] readyOutput
     s.bss.nextStrobe = some 3 ∧ s.bss.delays[3] = 0 ∧ lanesAreOff (s.bss.brings [3, 4]) s ∧
     ∀ n : Fin 6, s.bss.strobes[n] ≠ 0 →
       (s.bss.switchedOn [3, 4])[n].enable = true ∧ (s.bss.switchedOn [3, 4])[n].good = true) ∧
    (let s := ramping .rampingUp (some 4) (some 3) #v[4, 0, 0, 0, 4, 0] #v[1, 1, 1, 1] { readyOutput with input := false }
     s.bss.nextStrobe = some 4 ∧ lanesAreOff (s.bss.brings [4]) s ∧
     ∃ n : Fin 6, s.bss.strobes[n] ≠ 0 ∧ (s.bss.switchedOn [4])[n].good = false) := by
  unfold AtRest lanesAreOff
  decide +kernel

/-- Ramp-downs that take GOOD outputs, their lanes in UP, with delays of 0. -/
theorem witness_PowerCommandsAndRamps_down :
    (let s := ramping .running none none #v[4, 3, 2, 1, 1, 4] #v[1, 1, 1, 1] goodOutput
     AtRest s ∧ s.bss.delays[3] ≠ 0 ∧ s.bss.takes [4] 0 = true ∧ lanesAreQuiet (s.bss.takes [4]) s) ∧
    (let s := ramping .rampingUp none none #v[4, 3, 2, 1, 1, 4] #v[1, 1, 1, 0] goodOutput
     AtRest s ∧ s.bss.delays[3] = 0 ∧ s.bss.delays[2] ≠ 0 ∧ lanesAreQuiet (s.bss.takes [4, 3]) s) ∧
    (let s := ramping .rampingDown (some 3) (some 3) #v[4, 3, 2, 1, 1, 4] #v[1, 1, 1, 1] goodOutput
     s.bss.nextStrobe = some ((2 : Fin 4).val + 1) ∧ s.bss.delays[2] ≠ 0 ∧ s.bss.takes [3] 1 = true ∧
     lanesAreQuiet (s.bss.takes [3]) s ∧ ∀ i : Fin 4, s.bcr[i].headDecided = false) ∧
    (let s := ramping .rampingDown (some 2) (some 2) #v[4, 3, 2, 1, 1, 4] #v[1, 0, 1, 1] goodOutput
     s.bss.nextStrobe = some ((1 : Fin 4).val + 1) ∧ (1 : Fin 4).val = (0 : Fin 4).val + 1 ∧ s.bss.delays[1] = 0 ∧
     s.bss.delays[0] ≠ 0 ∧ lanesAreQuiet (s.bss.takes [2, 1]) s) ∧
    (let s := ramping .rampingDown (some 1) (some 1) #v[4, 3, 2, 1, 1, 4] #v[0, 1, 1, 1] goodOutput
     s.bss.nextStrobe = some ((0 : Fin 4).val + 1) ∧ s.bss.delays[0] = 0 ∧ s.bss.takes [1] 3 = true ∧
     lanesAreQuiet (s.bss.takes [1]) s) := by
  refine ⟨?_, ?_, ?_, ?_, ?_⟩ <;> (try unfold AtRest) <;> unfold lanesAreQuiet <;> decide +kernel

/-- A rise on output 0 while its lane is OFF. -/
def laneStarting : State := { State.reset with bss := { resetBss with power := .rampingDown, outputs := Vector.replicate 6 starting } }

theorem witness_SupplyWatchAndFaults :
    (∀ i : Fin 4, State.reset.bcr[i].headDecided = false) ∧ State.reset.bss.outputs[5].enable = false ∧
    (starting.enable = true ∧ starting.faultHeld = false ∧ starting.good = false) ∧
    4 ≤ (4 : Fin 6).val ∧ (3 : Fin 6).val = (3 : Fin 4).val ∧ laneStarting.slr.lanes[3].state = .off ∧
    laneStarting.bss.power ≠ .rampingUp ∧
    (let s := powered .rampingUp none none starting
     let b : Bss := { s.bss with strobes := #v[0, 0, 0, 0, 1, 0] }
     b.power = .rampingUp ∧ b.nextStrobe = none ∧ ∀ m : Fin 6, m ≠ 4 → b.strobes[m] ≠ 0 →
       b.outputs[m].enable = true ∧ b.outputs[m].good = true) ∧
    goodOutput.timer ≠ .start ∧ starting.timer = .start ∧ starting.timer ≠ .loss ∧
    laneStarting.bss.power ≠ .dormant ∧ laneStarting.bss.delays[3] ≠ 0 ∧
    (∀ m : Fin 6, laneStarting.bss.strobes[m] = 4 → laneStarting.bss.outputs[m].enable = false) ∧
    ({ goodOutput with timer := .loss } : Supply).timer = .loss ∧
    (lanesUp.slr.lanes[0].state ≠ .off ∧ lanesUp.bcr[0].queue = [] ∧ lanesUp.bcr[0].timer = false) := by decide +kernel

/-- The part with every output ON at strobe 4 and GOOD but one, `n`. -/
def faulty (p : PowerState) (n : Fin 6) (o : Supply) : State :=
  let s := ramping p none none #v[4, 4, 4, 4, 4, 4] #v[1, 1, 1, 1] goodOutput
  { s with bss := { s.bss with outputs := s.bss.outputs.set n o } }

/-- Faults of supplies with other outputs ON at strobe 4, the lane's request in flight, and the rise of a lane's supply
that completes the ramp-up. -/
theorem witness_SupplyWatchAndFaults_strobe :
    (let s := faulty .running 4 starting
     s.bss.outputs[4].timer = .start ∧ s.bss.power ≠ .dormant ∧ s.bss.delays[3] ≠ 0 ∧ s.bss.takes [4] 0 = true ∧
     lanesAreQuiet (s.bss.takes [4]) s ∧ ∀ i : Fin 4, s.bcr[i].headDecided = false) ∧
    (let s := faulty .rampingDown 5 { goodOutput with timer := .loss }
     s.bss.outputs[5].timer = .loss ∧ s.bss.power = .rampingDown ∧ 4 ≤ (5 : Fin 6).val) ∧
    (let s := faulty .running 2 { goodOutput with timer := .loss }
     s.bss.outputs[2].timer = .loss ∧ s.slr.lanes[2].state = .up ∧ s.bcr[2].queue = [] ∧ s.bcr[2].timer = false) ∧
    (let s := faulty .running 2 { goodOutput with timer := .loss }
     let s : State := { s with bcr := s.bcr.set 2 { queue := [request .inFlight], timer := true, held := none } }
     (∀ i : Fin 4, s.bcr[i].headDecided = false) ∧ s.bcr[2].queue = [request .inFlight] ∧ s.lma.egress.length < 7 ∧
     ∀ i : Fin 4, i ≠ 2 → s.slr.lanes[i].state ≠ .off ∧ s.bcr[i].queue = [] ∧ s.bcr[i].timer = false) ∧
    (let s := faulty .rampingUp 3 starting
     let s : State := { s with slr := { s.slr with lanes := s.slr.lanes.set 3 resetLane } }
     s.bss.outputs[3].enable = true ∧ s.bss.outputs[3].good = false ∧ s.slr.lanes[3].state = .off ∧
     s.bss.nextStrobe = none ∧ ∀ m : Fin 6, m ≠ 3 → s.bss.strobes[m] ≠ 0 →
       s.bss.outputs[m].enable = true ∧ s.bss.outputs[m].good = true) := by
  unfold lanesAreQuiet
  decide +kernel

/-! ## Witnesses: the agent and the accessory channel -/

theorem witness_TableWritesOfOneField :
    AtRest State.reset ∧ AtRest pendingCommit ∧ AtRest rampingUp ∧ pendingCommit.las.commit ≠ .none ∧
    State.reset.las.commit = .none ∧ rampingUp.bss.power ≠ .dormant ∧ State.reset.bss.power = .dormant ∧
    (0 : Byte).toNat ∈ [0, 4, 6, 9, 11, 15, 16, 17, 18] ∧ 20 ≤ (20 : Byte).toNat ∧
    (∀ x ∈ [(1, 5), (2, 5), (3, 19), (5, 64), (7, 48), (8, 23), (10, 10), (12, 21), (13, 21), (14, 12), (19, 6)],
      covers x.2 (write (BitVec.ofNat 8 (x.2 - 1)) [1]) = true ∧ covers x.2 (write (BitVec.ofNat 8 x.2) [1]) = false) ∧
    (write 0 []).count = 0 ∧ 30 < (write 0 (List.replicate 31 0)).count.toNat ∧
    ({ write 0 [3] with length := 16 } : WriteFields).length.toNat ≠ 8 * (write 0 [3]).count.toNat ∧
    State.reset.lma.flag .powerOn = true ∧ State.reset.lma.flag .call = false ∧ State.reset.bss.marks = 0 := by
  unfold AtRest
  decide +kernel

/-- The bytes of a Tile Map place, its last byte not 0. -/
def placeBytes (lane segment : Byte) (width : Nat) (correction seam : Byte) : List Byte :=
  [1, lane, segment] ++ natToBytes 2 width ++ [correction, seam, 0xA5]

/-- The last two places of the Tile Map and its read-only indices. -/
def tileWrite : WriteFields :=
  { write 15 [0, 0, 0, 0] with
    body := body (placeBytes 3 3 4096 15 1 ++ placeBytes 0 0 1 0 0 ++ List.replicate 16 0xFF) }

/-- WRITEs of several fields at both ends of their ranges, and fields one beyond. -/
theorem witness_TableWritesOfOneField_fields :
    (covers 19 tileWrite = true ∧
      (bodyField tileWrite.body 0).toNat =
        2 ^ 56 + 3 * 2 ^ 48 + 3 * 2 ^ 40 + 4096 * 2 ^ 24 + 15 * 2 ^ 16 + 2 ^ 8 + 0xA5 ∧
      (bodyField tileWrite.body 1).toNat = 2 ^ 56 + 2 ^ 24 + 0xA5 ∧ (bodyField tileWrite.body 2).toNat / 2 ^ 56 ≠ 1) ∧
    (covers 64 (write 0 [14, 3, 0]) = true ∧ carries (write 0 [14, 3, 0]) [14, 3, 0] = true ∧ 14 ∈ [10, 12, 14]) ∧
    (covers 48 (write 45 [4095, 65535, 0]) = true ∧ carries (write 45 [4095, 65535, 0]) [4095, 65535, 0] = true ∧
      47 = 3 * 15 + 2) ∧
    (covers 23 (write 15 [6, 3, 1, 65535, 0, 4095, 255, 1]) = true ∧
      carries (write 15 [6, 3, 1, 65535, 0, 4095, 255, 1]) [6, 3, 1, 65535, 0, 4095, 255, 1] = true ∧ 22 = 15 + 7) ∧
    (covers 10 (write 5 [4, 15]) = true ∧ carries (write 5 [4, 15]) [4, 15] = true) ∧
    (covers 21 (write 19 [1, 0]) = true ∧ carries (write 19 [1, 0]) [1, 0] = true ∧ Flag.mgmtError.index = 20) ∧
    (covers 12 (write 10 [0, 1]) = true ∧ carries (write 10 [0, 1]) [0, 1] = true) ∧
    (covers 6 (write 0 [115200, 9]) = true ∧ carries (write 0 [115200, 9]) [115200, 9] = true ∧
      115200 ∈ [9600, 19200, 38400, 57600, 115200]) ∧
    (carries (write 0 [11]) [11] = true ∧ 11 ∉ [10, 12, 14]) ∧ (carries (write 20 [2]) [2] = true ∧ 1 < 2) ∧
    (carries (write 2 [4096]) [4096] = true ∧ 4095 < 4096) ∧ (carries (write 9 [16]) [16] = true ∧ 15 < 16) := by
  decide +kernel

theorem witness_AccessoryBytesAndCalls :
    resetAcu.upEscape = false ∧ resetAcu.downEscape = false ∧ resetAcu.owner = .remote ∧
    (localOwner.owner = .localSide ∧ localOwner.sending = none ∧ localOwner.down = 5 :: [] ∧
      localOwner.upEscape = false ∧ localOwner.downEscape = false) ∧
    (List.replicate 255 (0 : Byte)).length < 256 ∧ 256 ≤ (List.replicate 256 (0 : Byte)).length ∧
    (0x1B#8 ≠ 0x1C ∧ 0x1B#8 ≠ 0x1D ∧ 0x1B#8 ≠ 0x1E ∧ 0x1B#8 ≠ 0x1F) ∧
    (resetAcu.down = [] ∧ resetAcu.sending = none) ∧
    ({ resetAcu with sending := some (1, .r9600) } : Acu).sending.isSome = true ∧
    ({ resetAcu with armed := true, prevSample := some .pressed } : Acu).prevSample = some .pressed ∧
    resetAcu.armed = false := by decide +kernel

/-- An unknown message with a Length. -/
def unknown (kind length : Byte) : Message :=
  { kind := kind, tag := 0, table := 0, index := 0, count := 0, length := length, body := body [] }

theorem witness_AgentCommandsAndUnknownMessages :
    AtRest (measuring runningRun) ∧ (command []).length = 0 ∧ State.reset.las.commit ≠ .draining ∧
    (∀ i : Fin 4, State.reset.bcr[i].queue = [] ∧ State.reset.bcr[i].timer = false) ∧
    (unknown 0 240).length.toNat ≤ 240 ∧ 4 < (unknown 5 240).kind.toNat ∧ 11 < (12 : Byte).toNat ∧
    240 < (unknown 0 241).length.toNat ∧
    8 ≤ ({ resetLma with ingress := List.replicate 8 (unknown 0 0) } : Lma).ingress.length := by
  unfold AtRest
  decide +kernel

/-- Two requests of lane 2. -/
def twoRequests : State :=
  { lanesUp with bcr := lanesUp.bcr.set 2 { queue := [request .inFlight, request .waiting], timer := true, held := none } }

/-- DATAPATH_RESET with two requests, and with a commit DRAINING before and after its flip. -/
theorem witness_AgentCommandsAndUnknownMessages_reset :
    (AtRest twoRequests ∧ twoRequests.las.commit ≠ .draining ∧
      twoRequests.bcr[2] = { queue := [request .inFlight, request .waiting], timer := true, held := none } ∧
      twoRequests.lma.egress.length < 5 ∧
      ∀ j : Fin 4, j ≠ 2 → twoRequests.bcr[j].queue = [] ∧ twoRequests.bcr[j].timer = false) ∧
    (∀ flipped, CommitInv (draining .online 5 flipped [stamped 3 .a]) ∧
      AtRest (draining .online 5 flipped [stamped 3 .a]) ∧
      (draining .online 5 flipped [stamped 3 .a]).las.commit = .draining ∧
      (draining .online 5 flipped [stamped 3 .a]).las.target = some .b) := by
  refine ⟨by unfold AtRest; decide +kernel, fun flipped => ⟨commitInv_draining .online 5 flipped _, ?_, rfl, rfl⟩⟩
  cases flipped <;> unfold AtRest <;> decide +kernel

/-- A READ. -/
def readOf (table index count length : Byte) : Message :=
  { kind := 1, tag := 7, table := table, index := index, count := count, length := length, body := body [] }

/-- A superframe of a marker of line 1125 and one management cell, before its check. -/
def cellPart (m : Message) : List Byte :=
  natToBytes 2 1125 ++ [0, 0, 0, 0, 0, 1, 0] ++ [m.kind, m.tag, m.table, m.index, m.count, m.length] ++ m.body

/-- That superframe with its check. -/
def withCell (m : Message) : List Byte := cellPart m ++ natToBytes 4 (crc32 (cellPart m)).toNat

theorem bytesToNat_natToBytes_four (n : Nat) (h : n < 2 ^ 32) : bytesToNat (natToBytes 4 n) = n := by
  simp [bytesToNat, natToBytes, List.range_succ, Nat.shiftRight_eq_div_pow]
  omega

theorem body_length : (body []).length = 240 := by decide +kernel

theorem cellPart_length (t i c l : Byte) : (cellPart (readOf t i c l)).length = 255 := by
  simp [cellPart, readOf, natToBytes, body_length]

/-- The superframe is good, and the message is read from it whole. -/
theorem parse_withCell (t i c l : Byte) :
    parseSuperframe (withCell (readOf t i c l)) = some { markerOnly 1125 0 with cells := [readOf t i c l] } := by
  have hp : crcPosition (withCell (readOf t i c l)) = 255 := by rfl
  have hg : superframeGood (withCell (readOf t i c l)) = true := by
    have h1 : cellCount (withCell (readOf t i c l)) = 1 := by rfl
    have h2 : auxCount (withCell (readOf t i c l)) = 0 := by rfl
    have h3 : byteAt (withCell (readOf t i c l)) 3 = 0 := by rfl
    have h4 : byteAt (withCell (readOf t i c l)) 2 = 0 := by rfl
    have h5 : (withCell (readOf t i c l)).length = 259 := by simp [withCell, cellPart_length, natToBytes]
    unfold superframeGood
    rw [hp, h1, h2, h3, h4, h5]
    simp [withCell, numberAt, List.take_left' (cellPart_length t i c l), List.drop_left' (cellPart_length t i c l)]
    rw [List.take_of_length_le (by simp [natToBytes]), bytesToNat_natToBytes_four _ (crc32 _).isLt]
    exact ⟨rfl, rfl⟩
  simp only [parseSuperframe, hg, if_true, superframeParts, markerOnly]
  simp [show cellCount (withCell (readOf t i c l)) = 1 by rfl, show auxCount (withCell (readOf t i c l)) = 0 by rfl,
    show byteAt (withCell (readOf t i c l)) 3 = 0 by rfl, show byteAt (withCell (readOf t i c l)) 2 = 0 by rfl]
  have hd : List.drop 9 (withCell (readOf t i c l)) =
    [1, 7, t, i, c, l] ++ (body [] ++ natToBytes 4 (crc32 (cellPart (readOf t i c l))).toNat) := by rfl
  refine ⟨rfl, rfl, ?_⟩
  rw [hd]
  simp [messageOfBytes, byteAt, readOf, List.take_left' body_length]

theorem witness_AgentCommandsAndUnknownMessages_read :
    (∀ t i c l : Byte, parseSuperframe (withCell (readOf t i c l)) =
      some { markerOnly 1125 0 with cells := [readOf t i c l] }) ∧
    (∀ m ∈ [readOf 20 0 1 0, readOf 17 61 31 0, readOf 19 1 6 0, readOf 0 0 0 0, readOf 12 3 1 1, readOf 17 61 30 0],
      m.kind = 1 ∧ m.length.toNat ≤ 240) ∧
    AtRest online ∧ online.tle.link = .online ∧ online.rtu.timing = .free ∧ online.rtu.settings.total ≤ 1125 ∧
    20 ≤ (readOf 20 0 1 0).table.toNat ∧ 30 < (readOf 17 61 31 0).count.toNat ∧
    6 < (readOf 19 1 6 0).index.toNat + (readOf 19 1 6 0).count.toNat ∧ (readOf 0 0 0 0).count = 0 ∧
    (readOf 12 3 1 1).length ≠ 0 ∧
    ((readOf 17 61 30 0).count.toNat ≤ 30 ∧
      (readOf 17 61 30 0).index.toNat + (readOf 17 61 30 0).count.toNat ≤ 91 ∧ (readOf 17 61 30 0).length = 0) := by
  refine ⟨parse_withCell, ?_⟩
  unfold AtRest
  decide +kernel

/-- The places of the tables at both ends: fifteen seam records, and one above them. -/
theorem witness_AgentCommandsAndUnknownMessages_fields :
    (let rs := (List.range 15).map fun k => freshSeam (k + 1)
     rs[15 - 1]? = some (freshSeam 15) ∧ [freshSeam 1].length < 2 ∧ 6 * 15 - 5 + 5 = 90) ∧
    (3, Bank.b) ∈ [(3, State.reset.las.active.other), (4, State.reset.las.active)] ∧
    (6, Bank.a) ∈ [(5, State.reset.tle.active.other), (6, State.reset.tle.active)] := by decide +kernel

end Sys2Proof.Tests
end

section
/-! Proofs. The departure of a line: the source of an entry, its corrected samples, and the cells that carry them
(05, R88, R92 to R95). -/

namespace Sys2Proof.Machine.Departure

/-! ## The correction of a raw sample (R92) -/

section

/-- The product d × G of R92, step 2. -/
def correctionProduct (c : Correction) (x : Sample) : Int := ((x.toNat : Int) - c.black.toNat) * c.gain.toNat

/-- The quotient q of R92, step 3. -/
def correctionQuotient (c : Correction) (x : Sample) : Int := (correctionProduct c x + 8192) / 16384

variable (c : Correction) (x : Sample)

theorem correct_eq_clamp :
    (correct c x : Int) = max 0 (min 16383 (correctionQuotient c x + c.pedestal.toNat)) := by
  change ((if correctionQuotient c x + c.pedestal.toNat < 0 then 0
    else if 16383 < correctionQuotient c x + c.pedestal.toNat then 16383
    else (correctionQuotient c x + c.pedestal.toNat).toNat : Nat) : Int) = _
  split
  case isTrue => omega
  case isFalse => split <;> omega

theorem correct_le : correct c x ≤ 16383 := by
  have h := correct_eq_clamp c x
  omega

theorem difference_bounds : -4095 ≤ (x.toNat : Int) - c.black.toNat ∧ (x.toNat : Int) - c.black.toNat ≤ 16383 := by
  have hx : x.toNat < 2 ^ 14 := x.isLt
  have hb : c.black.toNat < 2 ^ 12 := c.black.isLt
  omega

theorem correctionProduct_bounds :
    -268365825 ≤ correctionProduct c x ∧ correctionProduct c x ≤ 1073659905 := by
  obtain ⟨hlow, hhigh⟩ := difference_bounds c x
  have hg : (c.gain.toNat : Int) ≤ 65535 := by
    have : c.gain.toNat < 2 ^ 16 := c.gain.isLt
    omega
  have hnonneg : (0 : Int) ≤ c.gain.toNat := Int.natCast_nonneg _
  have hbelow : -4095 * (c.gain.toNat : Int) ≤ correctionProduct c x := Int.mul_le_mul_of_nonneg_right hlow hnonneg
  have habove : correctionProduct c x ≤ 16383 * (c.gain.toNat : Int) := Int.mul_le_mul_of_nonneg_right hhigh hnonneg
  omega

theorem correctionQuotient_floor :
    16384 * correctionQuotient c x ≤ correctionProduct c x + 8192 ∧
      correctionProduct c x + 8192 < 16384 * (correctionQuotient c x + 1) := by
  unfold correctionQuotient
  omega

theorem correctionQuotient_bounds : -16380 ≤ correctionQuotient c x ∧ correctionQuotient c x ≤ 65531 := by
  have hp := correctionProduct_bounds c x
  have hq := correctionQuotient_floor c x
  omega

/-- A gain of 0 leaves the pedestal, which no clamp changes. -/
theorem correct_of_gain_zero (hg : c.gain = 0) : correct c x = c.pedestal.toNat := by
  have hq : correctionQuotient c x = 0 := by simp [correctionQuotient, correctionProduct, hg]
  have hp : c.pedestal.toNat < 2 ^ 12 := c.pedestal.isLt
  have h := correct_eq_clamp c x
  omega

end

/-- Every corrected sample lies in the range of a sample, whatever its source (R88, R92). -/
theorem correctedOf_le (table : Vector Correction 16) (p : Place) (src : Source) :
    ∀ r ∈ correctedOf table p src, r ≤ 16383 := by
  intro r hr
  cases src with
  | record xs | held xs =>
    obtain ⟨x, -, rfl⟩ := List.mem_map.mp hr
    exact correct_le _ x
  | pedestal =>
    have hp : table[p.correction].pedestal.toNat < 2 ^ 12 := table[p.correction].pedestal.isLt
    have hr : r = table[p.correction].pedestal.toNat := List.eq_of_mem_replicate hr
    omega

/-! ## The source of an entry (R88) -/

section
variable {present : List Segment} {held : Vector HeldPlace 16} {p : Place}

theorem sourceOf_of_present {seg : Segment}
    (h : (present.find? fun s => s.lane == p.lane && s.segment == p.segment) = some seg) :
    sourceOf present held p = .record seg.samples := by
  simp [sourceOf, presentSamples, h]

/-- An entry the record does not hold, with the choice R88 leaves for it. -/
theorem sourceOf_of_missing (h : ∀ s ∈ present, ¬(s.lane = p.lane ∧ s.segment = p.segment)) :
    sourceOf present held p =
      if held[heldIndex p.lane p.segment].valid = true ∧ held[heldIndex p.lane p.segment].width = p.width
      then .held held[heldIndex p.lane p.segment].samples else .pedestal := by
  have hnone : (present.find? fun s => s.lane == p.lane && s.segment == p.segment) = none := by
    simpa using h
  simp [sourceOf, presentSamples, hnone]

theorem conceals_of_missing (h : ∀ s ∈ present, ¬(s.lane = p.lane ∧ s.segment = p.segment)) :
    (sourceOf present held p).conceals = true := by
  rw [sourceOf_of_missing h]
  split <;> rfl

end

/-! ## The entries of a departing line (R84) -/

section
variable {l : Ldu} {es : List Place} {present : List Segment} {d : Departing}

theorem getElem?_departingEntries {k : Nat} {p : Place} (h : es[k]? = some p) :
    (departingEntries l es present)[k]? =
      some { place := p, source := sourceOf present l.held p,
             corrected := correctedOf l.correction p (sourceOf present l.held p) } := by
  simp [departingEntries, h]

theorem corrected_of_mem (h : d ∈ departingEntries l es present) :
    d.corrected = correctedOf l.correction d.place d.source := by
  obtain ⟨p, -, rfl⟩ := List.mem_map.mp h
  rfl

end

/-! ## Requantization and packing (R93 to R95) -/

theorem requantize_lt {r : Nat} (h : r ≤ 16383) (e : Depth) : requantize e r < 2 ^ e.bits := by
  cases e with
  | d10 | d12 | d14 =>
    simp only [requantize, Depth.bits]
    omega

theorem getElem?_chunks (n k i : Nat) (xs : List Nat) :
    (chunks n k xs)[i]? = if i < k then some ((xs.drop (i * n)).take n) else none := by
  induction k generalizing i xs with
  | zero => simp [chunks]
  | succ k ih =>
    cases i with
    | zero => simp [chunks]
    | succ i => simp [chunks, ih, Nat.succ_mul, Nat.add_comm n]

/-- Cell k packs the k-th run of the output row (R95). -/
theorem payload_of_lineCellList {g : Degrade} {frame : Fin 16} {line : Nat} {ds : List Departing} {k : Nat}
    {c : VideoCell} (h : (lineCellList g frame line ds)[k]? = some c) :
    c.payload = packPayload g.depth (((outputRow g.depth ds).drop (k * g.depth.perCell)).take g.depth.perCell) := by
  simp only [lineCellList, List.getElem?_map, List.getElem?_zipIdx, getElem?_chunks] at h
  split at h
  case isTrue =>
    obtain rfl := Option.some.inj h
    rfl
  case isFalse => cases h

/-! ## The statements -/

/-- Settles O42: the correction by the ranges of R92's steps and the one clamp at its end. -/
theorem correctionOfASample : Obligations.CorrectionOfASample := by
  refine ⟨fun l es present d hd => ⟨?_, ?_⟩, fun c x => ?_⟩
  · rintro xs (hs | hs) <;> rw [corrected_of_mem hd, hs] <;> rfl
  · rw [corrected_of_mem hd]
    exact correctedOf_le _ _ _
  · intro d p q
    have hr : (correct c x : Int) = max 0 (min 16383 (q + c.pedestal.toNat)) := correct_eq_clamp c x
    obtain ⟨hfloor, hceil⟩ : 16384 * q ≤ p + 8192 ∧ p + 8192 < 16384 * (q + 1) := correctionQuotient_floor c x
    refine ⟨difference_bounds c x, correctionProduct_bounds c x, ⟨hfloor, hceil, correctionQuotient_bounds c x⟩,
      ?_, ?_, ?_, ?_, correct_of_gain_zero c x, correct_le c x⟩ <;> omega

/-- Settles O46: the two rows of R88's table for a missing entry come from the width and the mark of its Held Copy. -/
theorem sourceOfAnEntry : Obligations.SourceOfAnEntry := by
  intro l es present k p hp
  refine ⟨_, getElem?_departingEntries hp, rfl, fun seg hseg => ?_,
    fun hmissing => ⟨conceals_of_missing hmissing, fun hvalid hwidth => ?_, fun hnot => ?_⟩⟩
  · rw [sourceOf_of_present hseg]
    exact ⟨rfl, rfl⟩
  · rw [sourceOf_of_missing hmissing, if_pos ⟨hvalid, hwidth⟩]
    rfl
  · have hheld : ¬(l.held[heldIndex p.lane p.segment].valid = true ∧
        l.held[heldIndex p.lane p.segment].width = p.width) := by
      rintro ⟨hvalid, hwidth⟩
      rcases hnot with hinvalid | hother
      · exact Bool.false_ne_true (hinvalid.symm.trans hvalid)
      · exact hother hwidth
    rw [sourceOf_of_missing hmissing, if_neg hheld]
    rfl

/-- Settles O43: the values of R93, and each cell's payload as the requantized run of the line's corrected samples. -/
theorem requantizationOfASample : Obligations.RequantizationOfASample := by
  refine ⟨fun e => by cases e <;> rfl, rfl, rfl, fun r hr => ?_, fun g frame line ds k c hc => ?_⟩
  · have h12 : requantize .d12 r = min 4095 ((r + 2) / 4) := rfl
    have h10 : requantize .d10 r = min 1023 ((r + 8) / 16) := rfl
    exact ⟨rfl, h12, h10, by omega, by omega, requantize_lt hr⟩
  · rw [payload_of_lineCellList hc, outputRow, List.map_take, List.map_drop]

end Sys2Proof.Machine.Departure
end
